-- ==== Sys2Proof/Word.lean ====
section
/-!
DEFINITION. The word types of the block and their plainest arithmetic (00_scope.md R7, R8: unsigned values, bit 0
the least significant).
-/

namespace Sys2Proof

/-- The command word `CMD[7:0]` (30_encoding.md R60). -/
abbrev Cmd := BitVec 8

/-- An index of R256: `IDX_W = 8` (00_scope.md R3). -/
abbrev Index8 := BitVec 8

/-- An index of RN: `IDX_W = 16` (00_scope.md R3). -/
abbrev Index16 := BitVec 16

/-- A one-bit register or response field: `genR`, `genW` (10_state.md R21), `ACK` (30_encoding.md R60). -/
abbrev Bit := BitVec 1

/-- The read-wrap counter and `VALUE`: `CNT_W = 32` bits (00_scope.md R3). -/
abbrev Count := BitVec 32

/-- One item: an opaque `ITEM_W`-bit value (00_scope.md R6). `ITEM_W` is a parameter of the instance, so the value is
held as a number below `2^ITEM_W` (DESIGN CHOICE, safe; notes/assumptions/11.md). -/
abbrev Item := Nat

/-- `zext_32(v)` (00_scope.md R8). -/
def zext32 {n : Nat} (v : BitVec n) : Count := v.setWidth 32

end Sys2Proof
end

