-- ==== Sys2Proof/Config.lean ====
section
/-!
DEFINITION. The build parameters of an instance (00_scope.md R3 to R6) and the free values of the model. No parameter
is a register (10_state.md R27) and none changes after reset (R3).
-/

namespace Sys2Proof

/-- `AVAILABLE_N_MODE`, of RN only (00_scope.md R3; 42_fixed_ring_n.md R122). -/
inductive AvailableNMode where
  | bugCompatible
  | corrected
  deriving DecidableEq, Repr

/-- `VARIANT` (00_scope.md R1), with the two parameters that only RN has: `SIZE` and `AVAILABLE_N_MODE` (R3). -/
inductive Variant where
  | r256
  | rn (size : Nat) (availableMode : AvailableNMode)
  deriving DecidableEq, Repr

/-- `OVERWRITE_POLICY`: what a WRITE that finds the buffer full does (00_scope.md R3). -/
inductive OverwritePolicy where
  | unchecked
  | overwriteOldest
  | reject
  deriving DecidableEq, Repr

/-- `EMPTY_READ_POLICY`: what a READ that finds the buffer empty does (00_scope.md R3). -/
inductive EmptyReadPolicy where
  | unchecked
  | reject
  deriving DecidableEq, Repr

/-- The parameters that fix an instance (00_scope.md R3). `CAP` and `IDX_W` follow from them (`Config.cap`,
`Config.idxW`). A parameter value outside the enumerations of R3 is no term of this type; the other values R5 and R6
refuse are refused by `Config.wf` (notes/assumptions/15.md). -/
structure Config where
  variant         : Variant
  itemW           : Nat
  cntW            : Nat
  overwritePolicy : OverwritePolicy
  emptyReadPolicy : EmptyReadPolicy
  deriving DecidableEq, Repr

/-- `CAP`: 256 for R256, `SIZE` for RN (00_scope.md R4). -/
def Config.cap (cfg : Config) : Nat :=
  match cfg.variant with
  | .r256 => 256
  | .rn size _ => size

/-- `IDX_W`: 8 for R256, 16 for RN (00_scope.md R3). -/
def Config.idxW (cfg : Config) : Nat :=
  match cfg.variant with
  | .r256 => 8
  | .rn _ _ => 16

/-- The usable capacity: 256 for R256, `SIZE - 1` for RN (00_scope.md R4). -/
def Config.usableCapacity (cfg : Config) : Nat :=
  match cfg.variant with
  | .r256 => 256
  | .rn size _ => size - 1

/-- The sizes an RN instance may have (00_scope.md R5). -/
def Variant.sizeAdmitted : Variant → Bool
  | .r256 => true
  | .rn size _ => decide (1 ≤ size ∧ size ≤ 32768)

/-- The configurations an instance is built from; every other one is refused (00_scope.md R5, R6;
60_exceptions.md R162). -/
def Config.wf (cfg : Config) : Bool :=
  cfg.variant.sizeAdmitted && decide (1 ≤ cfg.itemW) && decide (cfg.cntW = 32)

/-- The configuration of `State.reset`: the first variant of the spec, the spec's default policies, and items of 8
bits as in spec/95_test_vectors.md. DESIGN CHOICE, unsafe for a claim that rests on it (the spec takes `VARIANT` and
`ITEM_W` as arguments): notes/assumptions/1.md. -/
def Config.default : Config where
  variant := .r256
  itemW := 8
  cntW := 32
  overwritePolicy := .unchecked
  emptyReadPolicy := .unchecked

/-- FREE VALUE `draw(ITEM_W)` (00_scope.md R9): the item a READ returns where the spec fixes none (41_fixed_ring_256.md
R105, 42_fixed_ring_n.md R125; 92_eei_decisions.md D12, D13). The model applies it to the item width and to the counter
`State.draws`, which each draw advances. It has no body: nothing is known of the value but that it has `itemW` bits.
Safe; notes/assumptions/4.md. -/
opaque Config.draw (itemW k : Nat) : BitVec itemW

end Sys2Proof
end

