-- ==== Sys2Proof/Syntax.lean ====
section
/-!
DEFINITION. The instructions: one constructor per row of spec/opcode_table.json (six operations in each of the two
variants, 00_scope.md R2; 30_encoding.md R62, R63).
-/

namespace Sys2Proof

/-- A command of the block, as its variant's row of the opcode table names it. Only WRITE has an operand, the item in
`WDATA` (30_encoding.md R61, R64). -/
inductive Instr where
  | r256Isempty                    -- R256.ISEMPTY,   0x00, 41_fixed_ring_256.md R100
  | r256Isfull                     -- R256.ISFULL,    0x01, 41_fixed_ring_256.md R101
  | r256Available                  -- R256.AVAILABLE, 0x02, 41_fixed_ring_256.md R102
  | r256Count                      -- R256.COUNT,     0x03, 41_fixed_ring_256.md R103
  | r256Write (wdata : Item)       -- R256.WRITE,     0x04, 41_fixed_ring_256.md R104
  | r256Read                       -- R256.READ,      0x05, 41_fixed_ring_256.md R105
  | rnIsempty                      -- RN.ISEMPTY,     0x00, 42_fixed_ring_n.md R120
  | rnIsfull                       -- RN.ISFULL,      0x01, 42_fixed_ring_n.md R121
  | rnAvailable                    -- RN.AVAILABLE,   0x02, 42_fixed_ring_n.md R122
  | rnCount                        -- RN.COUNT,       0x03, 42_fixed_ring_n.md R123
  | rnWrite (wdata : Item)         -- RN.WRITE,       0x04, 42_fixed_ring_n.md R124
  | rnRead                         -- RN.READ,        0x05, 42_fixed_ring_n.md R125
  deriving DecidableEq, Repr

/-- The operations that change state: WRITE and READ (10_state.md R35; 30_encoding.md R61). -/
def Instr.changesState : Instr → Bool
  | .r256Write _ | .r256Read | .rnWrite _ | .rnRead => true
  | .r256Isempty | .r256Isfull | .r256Available | .r256Count => false
  | .rnIsempty | .rnIsfull | .rnAvailable | .rnCount => false

/-- The two rows of WRITE. -/
def Instr.isWrite : Instr → Bool
  | .r256Write _ | .rnWrite _ => true
  | .r256Isempty | .r256Isfull | .r256Available | .r256Count | .r256Read => false
  | .rnIsempty | .rnIsfull | .rnAvailable | .rnCount | .rnRead => false

/-- The two rows of READ. -/
def Instr.isRead : Instr → Bool
  | .r256Read | .rnRead => true
  | .r256Isempty | .r256Isfull | .r256Available | .r256Count | .r256Write _ => false
  | .rnIsempty | .rnIsfull | .rnAvailable | .rnCount | .rnWrite _ => false

end Sys2Proof
end

