-- ==== Sys2Proof/WellFormed.lean ====
section
/-!
DEFINITION. Which instructions exist in an instance: those of its variant (30_encoding.md R63), with an item that fits
`ITEM_W` bits (R68: `0 ≤ <item> < 2^ITEM_W`).
-/

namespace Sys2Proof

/-- The instruction's row belongs to this variant (30_encoding.md R63). -/
def Instr.ofVariant (i : Instr) (v : Variant) : Bool :=
  match v, i with
  | .r256, .r256Isempty | .r256, .r256Isfull | .r256, .r256Available => true
  | .r256, .r256Count | .r256, .r256Write _ | .r256, .r256Read => true
  | .rn _ _, .rnIsempty | .rn _ _, .rnIsfull | .rn _ _, .rnAvailable => true
  | .rn _ _, .rnCount | .rn _ _, .rnWrite _ | .rn _ _, .rnRead => true
  | .r256, .rnIsempty | .r256, .rnIsfull | .r256, .rnAvailable => false
  | .r256, .rnCount | .r256, .rnWrite _ | .r256, .rnRead => false
  | .rn _ _, .r256Isempty | .rn _ _, .r256Isfull | .rn _ _, .r256Available => false
  | .rn _ _, .r256Count | .rn _ _, .r256Write _ | .rn _ _, .r256Read => false

/-- The item of a WRITE has `ITEM_W` bits (30_encoding.md R64, R68). -/
def Instr.itemFits (i : Instr) (itemW : Nat) : Bool :=
  match i with
  | .r256Write wdata | .rnWrite wdata => decide (wdata < 2 ^ itemW)
  | .r256Isempty | .r256Isfull | .r256Available | .r256Count | .r256Read => true
  | .rnIsempty | .rnIsfull | .rnAvailable | .rnCount | .rnRead => true

/-- The instruction is one an instance with this configuration has. -/
def Instr.wf (cfg : Config) (i : Instr) : Bool :=
  i.ofVariant cfg.variant && i.itemFits cfg.itemW

end Sys2Proof
end

