-- ==== Sys2Proof/Decode.lean ====
section
/-!
DEFINITION. Decoding of a transaction's command word and item (30_encoding.md R60 to R67), total on all 256 words, and
the encoder written from the same opcode map.
-/

namespace Sys2Proof

/-- Why a command word is illegal (30_encoding.md R66). -/
inductive DecodeError where
  | reservedBits    -- `RSV ≠ 0`
  | reservedOp      -- `OP = 0b110` or `OP = 0b111`
  deriving DecidableEq, Repr

/-- `OP = CMD[2:0]` (30_encoding.md R61). -/
def cmdOp (cmd : Cmd) : BitVec 3 := cmd.extractLsb' 0 3

/-- `RSV = CMD[7:3]` (30_encoding.md R61). -/
def cmdRsv (cmd : Cmd) : BitVec 5 := cmd.extractLsb' 3 5

/-- `v[ITEM_W-1:0]` (00_scope.md R7): the item on the `ITEM_W` wires of `WDATA` (30_encoding.md R64; DEDUCED for a
number of more bits, safe: notes/assumptions/10.md). -/
def itemBits (itemW : Nat) (v : Nat) : Item := v % 2 ^ itemW

/-- The opcode map (30_encoding.md R62), its row chosen by the variant (R63). -/
def decodeOp (v : Variant) (op : BitVec 3) (item : Item) : Except DecodeError Instr :=
  match v, op.toNat with
  | .r256,   0 => .ok .r256Isempty
  | .r256,   1 => .ok .r256Isfull
  | .r256,   2 => .ok .r256Available
  | .r256,   3 => .ok .r256Count
  | .r256,   4 => .ok (.r256Write item)
  | .r256,   5 => .ok .r256Read
  | .rn _ _, 0 => .ok .rnIsempty
  | .rn _ _, 1 => .ok .rnIsfull
  | .rn _ _, 2 => .ok .rnAvailable
  | .rn _ _, 3 => .ok .rnCount
  | .rn _ _, 4 => .ok (.rnWrite item)
  | .rn _ _, 5 => .ok .rnRead
  | .r256,   _ => .error .reservedOp
  | .rn _ _, _ => .error .reservedOp

/-- The instruction of a command, or the name of what makes its word illegal (30_encoding.md R61 to R67). `WDATA` is
read by WRITE only (R64). -/
def decode (cfg : Config) (cmd : Cmd) (wdata : Nat) : Except DecodeError Instr :=
  if cmdRsv cmd = 0 then decodeOp cfg.variant (cmdOp cmd) (itemBits cfg.itemW wdata)
  else .error .reservedBits

/-- The command word of an instruction (30_encoding.md R62; spec/opcode_table.json). -/
def encodeCmd : Instr → Cmd
  | .r256Isempty   => 0x00#8
  | .r256Isfull    => 0x01#8
  | .r256Available => 0x02#8
  | .r256Count     => 0x03#8
  | .r256Write _   => 0x04#8
  | .r256Read      => 0x05#8
  | .rnIsempty     => 0x00#8
  | .rnIsfull      => 0x01#8
  | .rnAvailable   => 0x02#8
  | .rnCount       => 0x03#8
  | .rnWrite _     => 0x04#8
  | .rnRead        => 0x05#8

/-- The `WDATA` sent with an instruction: the item of a WRITE; zero where the block ignores it (30_encoding.md R64). -/
def encodeWdata : Instr → Nat
  | .r256Write wdata => wdata
  | .rnWrite wdata   => wdata
  | .r256Isempty | .r256Isfull | .r256Available | .r256Count | .r256Read => 0
  | .rnIsempty | .rnIsfull | .rnAvailable | .rnCount | .rnRead => 0

/-- The transaction's two fields from the host, `(CMD, WDATA)` (30_encoding.md R60). -/
def encode (i : Instr) : Cmd × Nat := (encodeCmd i, encodeWdata i)

/-- `CMD` of an instruction numbered as spec/opcode_table.json numbers it: bits 7..0. Bits from `nbits` on are zero. -/
def tableCmd (nbits w : Nat) : Cmd := BitVec.ofNat 8 (w % 2 ^ nbits)

/-- `WDATA` of an instruction so numbered: the bits after `CMD`. The table gives it none, so it is zero there. -/
def tableWdata (nbits w : Nat) : Nat := (w % 2 ^ nbits) / 256

/-- What the decoder reads from a table word, in an instance of the configuration of `State.reset`, an R256 instance:
the word alone does not name the variant (30_encoding.md R63; notes/assumptions/5.md). -/
def decodeTableWord (nbits w : Nat) : Option Instr :=
  match decode Config.default (tableCmd nbits w) (tableWdata nbits w) with
  | .ok i => some i
  | .error _ => none

end Sys2Proof
end

