-- ==== Sys2Proof/Machine/State.lean ====
section
/-!
DEFINITION. The state of an instance as plain data (10_state.md R20, R22, R29), the command port (30_encoding.md R60),
the reasons a step can stop, and the state after reset (10_state.md R30).
-/

namespace Sys2Proof.Machine

/-- Why a step can fault. The block itself raises nothing (60_exceptions.md R160), so no state a run reaches faults. -/
inductive Fault where
  /-- Raised by the two store accesses, `MemRead` and `MemWrite`, for a slot outside `[0, CAP)`, which does not exist
  (20_memory.md R40, R41). Only a state that breaks 10_state.md R31 can raise it. Safe: notes/assumptions/7.md. -/
  | slotOutOfRange (index : Nat)
  deriving DecidableEq, Repr

/-- Why a step can be refused: the model's verdict that a command or configuration has no meaning (00_scope.md R10). -/
inductive Refusal where
  /-- Raised by no arm: every instruction has its meaning. Safe. -/
  | notModelled (mnemonic : String)
  /-- Raised by the fetch for a command word with `RSV ≠ 0` or `OP` 6 or 7 (30_encoding.md R66). Safe: the spec's own
  `refuse(ReservedEncoding)`. -/
  | reservedEncoding
  /-- Raised when an instance is built from, or a step taken under, a configuration the block cannot have (00_scope.md
  R5, R6; 60_exceptions.md R162). Safe: notes/assumptions/15.md. -/
  | badConfiguration
  /-- Raised by every meaning in an instance that is not of the instruction's variant; no command decodes to such an
  instruction there (30_encoding.md R63). Safe: notes/assumptions/8.md. -/
  | otherVariant
  deriving DecidableEq, Repr

/-- The registers of an R256 instance (10_state.md R20, R21). -/
structure R256Regs where
  head  : Index8
  tail  : Index8
  genR  : Bit
  genW  : Bit
  wrapR : Count
  deriving DecidableEq, Repr

/-- The registers of an RN instance (10_state.md R22). It has no generation flags. -/
structure RNRegs where
  head  : Index16
  tail  : Index16
  wrapR : Count
  deriving DecidableEq, Repr

/-- The registers of an instance: of exactly one of the two variants (00_scope.md R1). -/
inductive Regs where
  | r256 (regs : R256Regs)
  | rn (regs : RNRegs)
  deriving DecidableEq, Repr

/-- The item store: the slots that hold a value, as (index, item) pairs with the indices strictly rising. A slot not
listed holds no value, `⊥` (10_state.md R25; notes/assumptions/11.md). -/
abbrev Slots := List (Nat × Item)

/-- The reasons of the precondition-violation table (60_exceptions.md R161). -/
inductive PVReason where
  | writeWhileFull
  | readWhileEmpty
  | readUnwritten
  deriving DecidableEq, Repr

/-- The mark `PV`: a sticky set of reasons (10_state.md R29), one Boolean for each. -/
structure PVMarks where
  writeWhileFull : Bool
  readWhileEmpty : Bool
  readUnwritten  : Bool
  deriving DecidableEq, Repr

/-- `PV` empty. -/
def PVMarks.none : PVMarks := ⟨false, false, false⟩

/-- The response of one transaction (30_encoding.md R60): `ACK`, `RDATA`, `VALUE`. -/
structure Response where
  ack   : Bit
  data  : Item
  value : Count
  deriving DecidableEq, Repr

/-- What the host can do to the block: apply reset, or present a command with its `WDATA` (20_memory.md R54). -/
inductive HostEvent where
  | reset
  | command (cmd : Cmd) (wdata : Nat)
  deriving DecidableEq, Repr

/-- The whole state of an instance. `regs` and `items` are the hardware's (10_state.md R20, R22); `pv` and
`refusedMark` are the spec's model-only marks (R29); `cfg` is the configuration, which no step changes (00_scope.md
R3); `port`, `responses` and `draws` are the model's: the host's events to come, oldest first, the responses given,
oldest first, and the number of free values drawn. -/
structure State where
  cfg         : Config
  regs        : Regs
  items       : Slots
  pv          : PVMarks
  refusedMark : Bool
  port        : List HostEvent
  responses   : List Response
  draws       : Nat
  deriving DecidableEq, Repr

/-- The registers after reset: every one zero (10_state.md R30; 70_reset_and_hazards.md R180). -/
def Regs.zero : Variant → Regs
  | .r256 => .r256 { head := 0#8, tail := 0#8, genR := 0#1, genW := 0#1, wrapR := 0#32 }
  | .rn _ _ => .rn { head := 0#16, tail := 0#16, wrapR := 0#32 }

/-- The state of an instance just built, which is its first reset (70_reset_and_hazards.md R180): registers zero, every
slot `⊥` (10_state.md R30), no mark set (notes/assumptions/9.md), nothing presented and nothing returned yet
(notes/assumptions/2.md, 3.md), nothing drawn (4.md). -/
def State.built (cfg : Config) : State where
  cfg := cfg
  regs := Regs.zero cfg.variant
  items := []
  pv := PVMarks.none
  refusedMark := false
  port := []
  responses := []
  draws := 0

/-- The machine right after reset, in the configuration `Config.default` (notes/assumptions/1.md). -/
def State.reset : State := State.built Config.default

end Sys2Proof.Machine
end

