-- ==== Sys2Proof/Machine/Index.lean ====
section
/-!
DEFINITION. modular_index_wraparound: the advance of an index and of what moves with it (40_index_and_detector.md R80
to R85), and the two index views of a state's registers.
-/

namespace Sys2Proof.Machine

/-- `adv256(i)`: the next index modulo 256, and whether the advance wrapped (40_index_and_detector.md R80). -/
def adv256 (i : Index8) : Index8 × Bool := (i + 1#8, i == 255#8)

/-- `advanceHead256` (40_index_and_detector.md R81). -/
def R256Regs.advanceHead (r : R256Regs) : R256Regs :=
  let (h, wrapped) := adv256 r.head
  { r with
    head  := h
    genR  := if wrapped then r.genR ^^^ 1#1 else r.genR
    wrapR := if wrapped then r.wrapR + 1#32 else r.wrapR }

/-- `advanceTail256` (40_index_and_detector.md R82). -/
def R256Regs.advanceTail (r : R256Regs) : R256Regs :=
  let (t, wrapped) := adv256 r.tail
  { r with
    tail := t
    genW := if wrapped then r.genW ^^^ 1#1 else r.genW }

/-- `advN(i)` for an instance of this `SIZE` (40_index_and_detector.md R83). -/
def advN (size : Nat) (i : Index16) : Index16 × Bool :=
  if i.toNat + 1 = size then (0#16, true) else (i + 1#16, false)

/-- `advanceHeadN` (40_index_and_detector.md R84). -/
def RNRegs.advanceHead (size : Nat) (r : RNRegs) : RNRegs :=
  let (h, wrapped) := advN size r.head
  { r with
    head  := h
    wrapR := if wrapped then r.wrapR + 1#32 else r.wrapR }

/-- `advanceTailN` (40_index_and_detector.md R85). -/
def RNRegs.advanceTail (size : Nat) (r : RNRegs) : RNRegs :=
  let (t, _) := advN size r.tail
  { r with tail := t }

/-- The read advance of the instance's variant; `cap` is `CAP`, which for RN is `SIZE` (00_scope.md R4). -/
def Regs.advanceHead (cap : Nat) : Regs → Regs
  | .r256 r => .r256 r.advanceHead
  | .rn r   => .rn (r.advanceHead cap)

/-- The write advance of the instance's variant. -/
def Regs.advanceTail (cap : Nat) : Regs → Regs
  | .r256 r => .r256 r.advanceTail
  | .rn r   => .rn (r.advanceTail cap)

/-- The slot `head` names (20_memory.md R42). -/
def Regs.headSlot : Regs → Nat
  | .r256 r => r.head.toNat
  | .rn r   => r.head.toNat

/-- The slot `tail` names (20_memory.md R42). -/
def Regs.tailSlot : Regs → Nat
  | .r256 r => r.tail.toNat
  | .rn r   => r.tail.toNat

/-- The read-wrap counter (10_state.md R23). -/
def Regs.wrapR : Regs → Count
  | .r256 r => r.wrapR
  | .rn r   => r.wrapR

end Sys2Proof.Machine
end

