-- ==== Sys2Proof/Machine/Flags.lean ====
section
/-!
DEFINITION. fifo_full_empty_detector: EMPTY and FULL, computed on demand and never stored (10_state.md R27;
40_index_and_detector.md R86 to R89). The block has no other flag.
-/

namespace Sys2Proof.Machine

/-- `EMPTY256` (40_index_and_detector.md R86). -/
def R256Regs.empty (r : R256Regs) : Bool := r.head == r.tail && r.genR == r.genW

/-- `FULL256` (40_index_and_detector.md R87). -/
def R256Regs.full (r : R256Regs) : Bool := r.head == r.tail && r.genR != r.genW

/-- `EMPTYN` (40_index_and_detector.md R88). -/
def RNRegs.empty (r : RNRegs) : Bool := r.head == r.tail

/-- `FULLN` (40_index_and_detector.md R89). An admitted `SIZE` is at least 1, so the difference is exact. -/
def RNRegs.full (size : Nat) (r : RNRegs) : Bool := r.tail.toNat == (r.head.toNat + size - 1) % size

/-- EMPTY of the instance's variant (40_index_and_detector.md R93). -/
def Regs.empty : Regs → Bool
  | .r256 r => r.empty
  | .rn r   => r.empty

/-- FULL of the instance's variant (40_index_and_detector.md R93); `cap` is `CAP`, which for RN is `SIZE`. -/
def Regs.full (cap : Nat) : Regs → Bool
  | .r256 r => r.full
  | .rn r   => r.full cap

end Sys2Proof.Machine
end

