-- ==== Sys2Proof/Machine/Operands.lean ====
section
/-!
DEFINITION. The one operand form and the response forms: the item on `WDATA` (30_encoding.md R64), `VALUE` by zero
extension (R65), and the arithmetic of the query results (41_fixed_ring_256.md R102, R103; 42_fixed_ring_n.md R122, R123).
-/

namespace Sys2Proof.Machine

/-- A Boolean result in `VALUE`: `zext_32(1)` or `zext_32(0)` (30_encoding.md R65). -/
def boolValue (b : Bool) : Count := zext32 (if b then 1#1 else 0#1)

/-- The response of a query: `ACK = 1`, `RDATA = 0` (30_encoding.md R65). -/
def Response.query (value : Count) : Response := ⟨1#1, 0, value⟩

/-- The response of a WRITE that was performed: every field but `ACK` zero (30_encoding.md R65). -/
def Response.written : Response := ⟨1#1, 0, 0#32⟩

/-- The response of a READ that was performed (30_encoding.md R65). -/
def Response.item (v : Item) : Response := ⟨1#1, v, 0#32⟩

/-- The response of a WRITE or READ that a `REJECT` policy declined (60_exceptions.md R173). -/
def Response.declined : Response := ⟨0#1, 0, 0#32⟩

/-- The AVAILABLE result of R256, 8 bits (41_fixed_ring_256.md R102). -/
def R256Regs.available (r : R256Regs) : Index8 := if r.full then 255#8 else r.tail - r.head

/-- The COUNT result of R256, modulo `2^32` (41_fixed_ring_256.md R103; 92_eei_decisions.md D27). -/
def R256Regs.count (r : R256Regs) : Count := BitVec.ofNat 32 (r.wrapR.toNat * 256 + r.head.toNat)

/-- The AVAILABLE result of RN, 16 bits, in exact integers before the narrowing (42_fixed_ring_n.md R122). -/
def RNRegs.available (size : Nat) (mode : AvailableNMode) (r : RNRegs) : Index16 :=
  match mode with
  | .bugCompatible => BitVec.ofInt 16 ((r.tail.toNat : Int) - r.head.toNat)
  | .corrected     => BitVec.ofInt 16 (((r.tail.toNat : Int) - r.head.toNat + size) % size)

/-- The COUNT result of RN, modulo `2^32` (42_fixed_ring_n.md R123; 92_eei_decisions.md D27). -/
def RNRegs.count (size : Nat) (r : RNRegs) : Count := BitVec.ofNat 32 (r.wrapR.toNat * size + r.head.toNat)

end Sys2Proof.Machine
end

