-- ==== Sys2Proof/Machine/Ops.lean ====
section
/-!
DEFINITION. The named operations over the item store, the registers, the marks and the port, and the shared bodies of
WRITE and READ. The block raises no exception and has no trap entry or return (60_exceptions.md R160, R165, R166), so
there is no exception entry here: what stands in its place is `State.markPV` (R161) and `State.afterRefusal`
(30_encoding.md R66).
-/

namespace Sys2Proof.Machine

/-- The content of slot `i`: its item, or `none` for `⊥` (10_state.md R25). -/
def readSlot : Slots → Nat → Option Item
  | [], _ => none
  | (j, v) :: rest, i => if i = j then some v else readSlot rest i

/-- The store with item `v` in slot `i` and every other slot as it was, its indices strictly rising again. -/
def writeSlot : Slots → Nat → Item → Slots
  | [], i, v => [(i, v)]
  | (j, u) :: rest, i, v =>
    if i < j then (i, v) :: (j, u) :: rest
    else if i = j then (i, v) :: rest
    else (j, u) :: writeSlot rest i v

/-- The canonical form of the store: indices strictly rising. (No entry reads as an unlisted slot does, since an
unlisted slot holds no value.) -/
def slotsRising : Slots → Bool
  | [] => true
  | (i, _) :: rest => rest.all (fun c => decide (i < c.1)) && slotsRising rest

/-- `MemRead(i, 1)` (20_memory.md R41): the slot's content; a slot outside `[0, CAP)` does not exist. -/
def State.memRead (s : State) (i : Nat) : Except Fault (Option Item) :=
  if i < s.cfg.cap then .ok (readSlot s.items i) else .error (.slotOutOfRange i)

/-- `MemWrite(i, 1, v)` (20_memory.md R41): a slot is `ITEM_W` bits wide, so it takes `v[ITEM_W-1:0]`; a slot outside
`[0, CAP)` does not exist. -/
def State.memWrite (s : State) (i : Nat) (v : Item) : Except Fault State :=
  if i < s.cfg.cap then .ok { s with items := writeSlot s.items i (itemBits s.cfg.itemW v) }
  else .error (.slotOutOfRange i)

/-- Return a response to the host (30_encoding.md R60). -/
def State.respond (s : State) (r : Response) : State := { s with responses := s.responses ++ [r] }

/-- Add a reason to the sticky set (10_state.md R29). -/
def PVMarks.add (p : PVMarks) : PVReason → PVMarks
  | .writeWhileFull => { p with writeWhileFull := true }
  | .readWhileEmpty => { p with readWhileEmpty := true }
  | .readUnwritten  => { p with readUnwritten := true }

/-- `mark PV(reason)` (10_state.md R29; 60_exceptions.md R161). -/
def State.markPV (s : State) (reason : PVReason) : State := { s with pv := s.pv.add reason }

/-- The value of the next `draw(ITEM_W)` (00_scope.md R9): FREE VALUE, notes/assumptions/4.md. -/
def State.drawn (s : State) : Item := (Config.draw s.cfg.itemW s.draws).toNat

/-- The state once that value has been drawn. -/
def State.afterDraw (s : State) : State := { s with draws := s.draws + 1 }

/-- The read advance of the instance (40_index_and_detector.md R81, R84). -/
def State.advanceHead (s : State) : State := { s with regs := s.regs.advanceHead s.cfg.cap }

/-- The write advance of the instance (40_index_and_detector.md R82, R85). -/
def State.advanceTail (s : State) : State := { s with regs := s.regs.advanceTail s.cfg.cap }

/-- EMPTY on the state found (40_index_and_detector.md R93). -/
def State.empty (s : State) : Bool := s.regs.empty

/-- FULL on the state found (40_index_and_detector.md R93). -/
def State.full (s : State) : Bool := s.regs.full s.cfg.cap

/-- The registers of an R256 instance. -/
def State.asR256 (s : State) : Option R256Regs :=
  match s.cfg.variant, s.regs with
  | .r256, .r256 r => some r
  | _, _ => none

/-- `SIZE`, `AVAILABLE_N_MODE` and the registers of an RN instance. -/
def State.asRN (s : State) : Option (Nat × AvailableNMode × RNRegs) :=
  match s.cfg.variant, s.regs with
  | .rn size mode, .rn r => some (size, mode, r)
  | _, _ => none

/-- A query's whole effect: its response (10_state.md R35; 30_encoding.md R65). -/
def State.answer (s : State) (value : Count) : State := s.respond (Response.query value)

/-- Store the item at `tail`, advance `tail`, acknowledge: the part of WRITE every policy shares. -/
def storeItem (wdata : Item) (s : State) : Host.Outcome State Fault Refusal :=
  match s.memWrite s.regs.tailSlot wdata with
  | .ok s' => .next (s'.advanceTail.respond Response.written)
  | .error f => .fault f

/-- The operation WRITE, its policy test taken on the state found (41_fixed_ring_256.md R104; 42_fixed_ring_n.md R124;
40_index_and_detector.md R93). -/
def writeItem (wdata : Item) (s : State) : Host.Outcome State Fault Refusal :=
  match s.cfg.overwritePolicy with
  | .unchecked       => storeItem wdata (if s.full then s.markPV .writeWhileFull else s)
  | .overwriteOldest => storeItem wdata (if s.full then s.advanceHead else s)
  | .reject          => if s.full then .next (s.respond Response.declined) else storeItem wdata s

/-- The item a READ that is not declined returns, and the state with its marks set, before `head` advances
(41_fixed_ring_256.md R105; 42_fixed_ring_n.md R125). -/
def takeItem (s : State) : Except Fault (Item × State) :=
  if s.empty then .ok (s.drawn, (s.markPV .readWhileEmpty).afterDraw)
  else
    match s.memRead s.regs.headSlot with
    | .ok (some v) => .ok (v, s)
    | .ok none     => .ok (s.drawn, (s.markPV .readUnwritten).afterDraw)
    | .error f     => .error f

/-- The operation READ (41_fixed_ring_256.md R105; 42_fixed_ring_n.md R125). -/
def readItem (s : State) : Host.Outcome State Fault Refusal :=
  if s.cfg.emptyReadPolicy = .reject ∧ s.empty = true then .next (s.respond Response.declined)
  else
    match takeItem s with
    | .ok (v, s') => .next (s'.advanceHead.respond (Response.item v))
    | .error f    => .fault f

/-- The reset event (70_reset_and_hazards.md R180, R181): the registers take their reset values and every slot is `⊥`.
The configuration stays (R180), `PV` and `REFUSED` stay (10_state.md R29), and so does what the host sees and the
count of draws (notes/assumptions/16.md). -/
def State.applyReset (s : State) : State :=
  { s with regs := Regs.zero s.cfg.variant, items := [] }

/-- Build an instance: its first reset (70_reset_and_hazards.md R180; 30_encoding.md R70). A configuration the block
cannot have is refused, and no state exists for it (00_scope.md R5, R6; 60_exceptions.md R162). -/
def build (cfg : Config) : Host.Outcome State Fault Refusal :=
  if cfg.wf then .next (State.built cfg) else .refused .badConfiguration

/-- What a refused command leaves: the command is taken from the port, no other state changes, there is no response,
and the mark `REFUSED` is set (30_encoding.md R66; 00_scope.md R10; notes/assumptions/6.md). -/
def State.afterRefusal (s : State) : State := { s with port := s.port.tail, refusedMark := true }

end Sys2Proof.Machine
end

