-- ==== Sys2Proof/Machine/Query.lean ====
section
/-!
DEFINITION. The four queries of each variant (41_fixed_ring_256.md R100 to R103; 42_fixed_ring_n.md R120 to R123). A
query changes nothing but what the host sees (10_state.md R35).
-/

namespace Sys2Proof.Machine

/-- R256.ISEMPTY (41_fixed_ring_256.md R100). -/
def execR256Isempty (s : State) : Host.Outcome State Fault Refusal :=
  match s.asR256 with
  | some r => .next (s.answer (boolValue r.empty))
  | none => .refused .otherVariant

/-- R256.ISFULL (41_fixed_ring_256.md R101). -/
def execR256Isfull (s : State) : Host.Outcome State Fault Refusal :=
  match s.asR256 with
  | some r => .next (s.answer (boolValue r.full))
  | none => .refused .otherVariant

/-- R256.AVAILABLE (41_fixed_ring_256.md R102). -/
def execR256Available (s : State) : Host.Outcome State Fault Refusal :=
  match s.asR256 with
  | some r => .next (s.answer (zext32 r.available))
  | none => .refused .otherVariant

/-- R256.COUNT (41_fixed_ring_256.md R103). -/
def execR256Count (s : State) : Host.Outcome State Fault Refusal :=
  match s.asR256 with
  | some r => .next (s.answer r.count)
  | none => .refused .otherVariant

/-- RN.ISEMPTY (42_fixed_ring_n.md R120). -/
def execRNIsempty (s : State) : Host.Outcome State Fault Refusal :=
  match s.asRN with
  | some (_, _, r) => .next (s.answer (boolValue r.empty))
  | none => .refused .otherVariant

/-- RN.ISFULL (42_fixed_ring_n.md R121). -/
def execRNIsfull (s : State) : Host.Outcome State Fault Refusal :=
  match s.asRN with
  | some (size, _, r) => .next (s.answer (boolValue (r.full size)))
  | none => .refused .otherVariant

/-- RN.AVAILABLE (42_fixed_ring_n.md R122). -/
def execRNAvailable (s : State) : Host.Outcome State Fault Refusal :=
  match s.asRN with
  | some (size, mode, r) => .next (s.answer (zext32 (r.available size mode)))
  | none => .refused .otherVariant

/-- RN.COUNT (42_fixed_ring_n.md R123). -/
def execRNCount (s : State) : Host.Outcome State Fault Refusal :=
  match s.asRN with
  | some (size, _, r) => .next (s.answer (r.count size))
  | none => .refused .otherVariant

end Sys2Proof.Machine
end

