-- ==== Sys2Proof/Machine/Transfer.lean ====
section
/-!
DEFINITION. WRITE and READ of each variant (41_fixed_ring_256.md R104, R105; 42_fixed_ring_n.md R124, R125), over the
shared bodies `writeItem` and `readItem`.
-/

namespace Sys2Proof.Machine

/-- R256.WRITE (41_fixed_ring_256.md R104). -/
def execR256Write (wdata : Item) (s : State) : Host.Outcome State Fault Refusal :=
  match s.asR256 with
  | some _ => writeItem wdata s
  | none => .refused .otherVariant

/-- R256.READ (41_fixed_ring_256.md R105). -/
def execR256Read (s : State) : Host.Outcome State Fault Refusal :=
  match s.asR256 with
  | some _ => readItem s
  | none => .refused .otherVariant

/-- RN.WRITE (42_fixed_ring_n.md R124). -/
def execRNWrite (wdata : Item) (s : State) : Host.Outcome State Fault Refusal :=
  match s.asRN with
  | some _ => writeItem wdata s
  | none => .refused .otherVariant

/-- RN.READ (42_fixed_ring_n.md R125). -/
def execRNRead (s : State) : Host.Outcome State Fault Refusal :=
  match s.asRN with
  | some _ => readItem s
  | none => .refused .otherVariant

end Sys2Proof.Machine
end

