-- ==== Sys2Proof/Machine/Dispatch.lean ====
section
/-!
DEFINITION. The meaning of each instruction, one arm per row of spec/opcode_table.json.
-/

namespace Sys2Proof.Machine

def exec (i : Instr) (s : State) : Host.Outcome State Fault Refusal :=
  match i with
  | .r256Isempty => Sys2Proof.Machine.execR256Isempty s
  | .r256Isfull => Sys2Proof.Machine.execR256Isfull s
  | .r256Available => Sys2Proof.Machine.execR256Available s
  | .r256Count => Sys2Proof.Machine.execR256Count s
  | .r256Write wdata => Sys2Proof.Machine.execR256Write wdata s
  | .r256Read => Sys2Proof.Machine.execR256Read s
  | .rnIsempty => Sys2Proof.Machine.execRNIsempty s
  | .rnIsfull => Sys2Proof.Machine.execRNIsfull s
  | .rnAvailable => Sys2Proof.Machine.execRNAvailable s
  | .rnCount => Sys2Proof.Machine.execRNCount s
  | .rnWrite wdata => Sys2Proof.Machine.execRNWrite wdata s
  | .rnRead => Sys2Proof.Machine.execRNRead s

end Sys2Proof.Machine
end

