-- ==== Sys2Proof/Machine/Fetch.lean ====
section
/-!
DEFINITION. Taking the host's next event from the command port (30_encoding.md R60; 20_memory.md R50, R53, R54). The
block has no program counter and no instruction memory.
-/

namespace Sys2Proof.Machine

/-- What the port offers a step. -/
inductive Fetched where
  | idle                              -- the host presents nothing (20_memory.md R55)
  | hostReset (s : State)             -- the reset event, taken from the port
  | command (i : Instr) (s : State)   -- a command, taken from the port
  | refused (r : Refusal)
  deriving DecidableEq, Repr

/-- Take the next event. A reserved command word is refused before any test (60_exceptions.md R163), and so is every
step of a configuration the block cannot have (R162). -/
def fetch (s : State) : Fetched :=
  if s.cfg.wf then
    match s.port with
    | [] => .idle
    | .reset :: rest => .hostReset { s with port := rest }
    | .command cmd wdata :: rest =>
      match decode s.cfg cmd wdata with
      | .ok i => .command i { s with port := rest }
      | .error _ => .refused .reservedEncoding
  else .refused .badConfiguration

/-- The host presents a command next, before the events already waiting. -/
def State.present (s : State) (cmd : Cmd) (wdata : Nat) : State :=
  { s with port := .command cmd wdata :: s.port }

end Sys2Proof.Machine
end

