-- ==== Sys2Proof/Machine/Step.lean ====
section
/-!
DEFINITION. One step: the block takes one event from the port and performs it whole (00_scope.md R10; 20_memory.md
R47). With no event left a step changes nothing (notes/assumptions/2.md).
-/

namespace Sys2Proof.Machine

/-- One step of the block. -/
def step (s : State) : Host.Outcome State Fault Refusal :=
  match fetch s with
  | .idle => .next s
  | .hostReset s' => .next s'.applyReset
  | .command i s' => exec i s'
  | .refused r => .refused r

/-- The state a step leaves, also when the step is refused: then the mark `REFUSED` is set and nothing else of the
block changes (00_scope.md R10; 30_encoding.md R66). -/
def advance (s : State) : State :=
  match step s with
  | .next t => t
  | .fault _ => s
  | .refused _ => s.afterRefusal

/-- `s` with the table word's command presented next (notes/assumptions/5.md). -/
def State.withFetchWord (s : State) (nbits w : Nat) : State :=
  s.present (tableCmd nbits w) (tableWdata nbits w)

end Sys2Proof.Machine
end

