-- ==== Sys2Proof/Machine/Assembler.lean ====
section
/-!
DEFINITION. The assembly syntax of a command (30_encoding.md R68) and its assembly into `CMD` and `WDATA`. There are no
pseudo-instructions (R69). A line is a list of characters. How words are separated and what an empty line assembles to
are DESIGN CHOICES (safe; notes/assumptions/14.md); a number is written as 00_scope.md R7 says.
-/

namespace Sys2Proof.Machine

/-- Why an assembler refuses a line. -/
inductive AsmError where
  | unknownMnemonic
  | badNumber
  | itemTooWide      -- not `0 ≤ <item> < 2^ITEM_W` (30_encoding.md R68)
  deriving DecidableEq, Repr

/-- The line without its comment: `;` starts one (30_encoding.md R68). -/
def dropComment : List Char → List Char
  | [] => []
  | c :: rest => if c = ';' then [] else c :: dropComment rest

/-- The words of a line, separated by spaces and tabs. -/
def splitWords : List Char → List (List Char)
  | [] => []
  | c :: rest =>
    if c = ' ' ∨ c = '\t' then splitWords rest
    else
      match rest, splitWords rest with
      | [], _ => [[c]]
      | d :: _, ws => if d = ' ' ∨ d = '\t' then [c] :: ws
        else match ws with
          | [] => [[c]]
          | w :: more => (c :: w) :: more

/-- The value of a digit. -/
def digitValue (c : Char) : Option Nat :=
  let n := c.toNat
  if 48 ≤ n ∧ n ≤ 57 then some (n - 48)
  else if 65 ≤ n ∧ n ≤ 70 then some (n - 55)
  else if 97 ≤ n ∧ n ≤ 102 then some (n - 87)
  else none

/-- Digits in a base, after a value already read. -/
def digitsValue (base : Nat) : Nat → List Char → Option Nat
  | acc, [] => some acc
  | acc, c :: rest =>
    match digitValue c with
    | some d => if d < base then digitsValue base (acc * base + d) rest else none
    | none => none

/-- A number: `0x..` hexadecimal, `0b..` binary, any other decimal (00_scope.md R7). -/
def numberValue : List Char → Option Nat
  | '0' :: 'x' :: c :: rest => digitsValue 16 0 (c :: rest)
  | '0' :: 'b' :: c :: rest => digitsValue 2 0 (c :: rest)
  | c :: rest => digitsValue 10 0 (c :: rest)
  | [] => none

/-- The command of a line: `none` for a line with no command on it (30_encoding.md R62, R68). A command without an
operand is sent with `WDATA = 0`, which the block ignores (R64). -/
def assembleLine (cfg : Config) (line : List Char) : Except AsmError (Option (Cmd × Nat)) :=
  match splitWords (dropComment line) with
  | [] => .ok none
  | [['I', 'S', 'E', 'M', 'P', 'T', 'Y']] => .ok (some (0x00#8, 0))
  | [['I', 'S', 'F', 'U', 'L', 'L']] => .ok (some (0x01#8, 0))
  | [['A', 'V', 'A', 'I', 'L', 'A', 'B', 'L', 'E']] => .ok (some (0x02#8, 0))
  | [['C', 'O', 'U', 'N', 'T']] => .ok (some (0x03#8, 0))
  | [['R', 'E', 'A', 'D']] => .ok (some (0x05#8, 0))
  | [['W', 'R', 'I', 'T', 'E'], operand] =>
    match numberValue operand with
    | some v => if v < 2 ^ cfg.itemW then .ok (some (0x04#8, v)) else .error .itemTooWide
    | none => .error .badNumber
  | _ => .error .unknownMnemonic

end Sys2Proof.Machine
end

