-- ==== Sys2Proof/Safety.lean ====
section
/-!
DEFINITION. The terms claims about the block are stated in: the invariant of its states (10_state.md R31), the derived
views of 40_index_and_detector.md R91 and R92, the queue of held items (R94), and the runs a claim speaks of (10_state.md
R29). Nothing here is read by a step.
-/

namespace Sys2Proof.Machine

/-- An R256 instance with these registers. -/
def State.IsR256 (s : State) (r : R256Regs) : Prop := s.cfg.variant = .r256 ∧ s.regs = .r256 r

/-- An RN instance of this `SIZE` and `AVAILABLE_N_MODE` with these registers. -/
def State.IsRN (s : State) (size : Nat) (mode : AvailableNMode) (r : RNRegs) : Prop :=
  s.cfg.variant = .rn size mode ∧ s.regs = .rn r

/-- The registers are those of the variant (10_state.md R20, R22). -/
def Regs.ofVariant : Regs → Variant → Bool
  | .r256 _, .r256   => true
  | .rn _,   .rn _ _ => true
  | .r256 _, .rn _ _ => false
  | .rn _,   .r256   => false

/-- Every item of the store lies in an existing slot and has `ITEM_W` bits (20_memory.md R40). -/
def slotsFit (cap itemW : Nat) (items : Slots) : Bool :=
  items.all (fun c => decide (c.1 < cap) && decide (c.2 < 2 ^ itemW))

/-- The store is in canonical form and holds only what the instance can hold. -/
def State.memoryWf (s : State) : Bool := slotsRising s.items && slotsFit s.cfg.cap s.cfg.itemW s.items

/-- The invariant of every state a run reaches: an admitted configuration, the registers of its variant, `head` and
`tail` in `[0, CAP)` (10_state.md R31), and a well-formed store. -/
structure State.Inv (s : State) : Prop where
  cfgWf    : s.cfg.wf = true
  variant  : s.regs.ofVariant s.cfg.variant = true
  headLt   : s.regs.headSlot < s.cfg.cap
  tailLt   : s.regs.tailSlot < s.cfg.cap
  memoryWf : s.memoryWf = true

/-- `h9 = {genR, head}` (40_index_and_detector.md R91). -/
def R256Regs.h9 (r : R256Regs) : BitVec 9 := r.genR ++ r.head

/-- `t9 = {genW, tail}` (40_index_and_detector.md R91). -/
def R256Regs.t9 (r : R256Regs) : BitVec 9 := r.genW ++ r.tail

/-- `occ256 = (t9 - h9) mod 512` (40_index_and_detector.md R91). -/
def R256Regs.occ (r : R256Regs) : Nat := (r.t9 - r.h9).toNat

/-- `occN = (tail - head) mod SIZE`, in exact integers (40_index_and_detector.md R92). -/
def RNRegs.occ (size : Nat) (r : RNRegs) : Nat := (((r.tail.toNat : Int) - r.head.toNat) % size).toNat

/-- The occupancy of an instance. -/
def State.occ (s : State) : Nat :=
  match s.regs with
  | .r256 r => r.occ
  | .rn r   => r.occ s.cfg.cap

/-- The slot `k` places after `head`, modulo `CAP`. -/
def State.slotFromHead (s : State) (k : Nat) : Nat := (s.regs.headSlot + k) % s.cfg.cap

/-- The queue: what the slots from `head` on hold, the oldest item first, `none` for a slot with no value
(40_index_and_detector.md R94). -/
def State.queue (s : State) : List (Option Item) :=
  (List.range s.occ).map (fun k => readSlot s.items (s.slotFromHead k))

/-- The queue holds at most the usable capacity, and every slot of it holds a value: what R91, R92 and 10_state.md R33
give while every caller precondition is kept. -/
def State.QueueSound (s : State) : Prop := s.occ ≤ s.cfg.usableCapacity ∧ ∀ x ∈ s.queue, x ≠ none

/-- No caller precondition has been broken: the first half of the premise of a claim (10_state.md R29). -/
def State.pvEmpty (s : State) : Prop := s.pv = PVMarks.none

/-- The premise of a claim about the block: "PV empty and REFUSED clear" (10_state.md R29). -/
def State.Clean (s : State) : Prop := s.pvEmpty ∧ s.refusedMark = false

/-- The COUNT result of an instance (41_fixed_ring_256.md R103; 42_fixed_ring_n.md R123). -/
def State.readPosition (s : State) : Count :=
  match s.regs with
  | .r256 r => r.count
  | .rn r   => r.count s.cfg.cap

/-- `genR = wrapR[0]` (10_state.md R32). RN has no generation flag. -/
def State.GenParity (s : State) : Prop := ∀ r, s.regs = .r256 r → r.genR = r.wrapR.setWidth 1

/-- The instruction advances `tail` in this state: a WRITE that is not declined (10_state.md R34). -/
def State.tailMoves (s : State) (i : Instr) : Bool :=
  i.isWrite && !(s.cfg.overwritePolicy == .reject && s.full)

/-- The instruction advances `head` in this state: a READ that is not declined, or a WRITE that finds the buffer full
under `OVERWRITE_OLDEST` (10_state.md R34). -/
def State.headMoves (s : State) (i : Instr) : Bool :=
  (i.isRead && !(s.cfg.emptyReadPolicy == .reject && s.empty)) ||
    (i.isWrite && s.cfg.overwritePolicy == .overwriteOldest && s.full)

/-- The next state of an outcome, if it is one. -/
def nextOf : Host.Outcome State Fault Refusal → Option State
  | .next t => some t
  | .fault _ => none
  | .refused _ => none

/-- The last response the host saw. -/
def State.lastResponse (s : State) : Option Response := s.responses.getLast?

end Sys2Proof.Machine
end

