-- ==== Sys2Proof/Certificates/Slice0/Obligations.lean ====
section
/-!
DEFINITION. The statements about the block, for the provers. Each docstring names the rule of spec/ it formalises. In a
READ's statement the returned item can be a FREE VALUE, `Config.draw` at `State.draws` (notes/assumptions/4.md): nothing
is said of it but that it is returned.
-/

open Sys2Proof Sys2Proof.Machine

/-! ### Encoding -/

/-- 30_encoding.md R62, R63, R66: the six legal command words select the six rows of the instance's variant, and no other
word is legal. -/
def Obligations.LegalWordsSelectTheirRow : Prop :=
  ∀ (cfg : Config) (wdata : Nat),
    (cfg.variant = .r256 →
      decode cfg 0x00#8 wdata = .ok .r256Isempty ∧ decode cfg 0x01#8 wdata = .ok .r256Isfull ∧
      decode cfg 0x02#8 wdata = .ok .r256Available ∧ decode cfg 0x03#8 wdata = .ok .r256Count ∧
      decode cfg 0x04#8 wdata = .ok (.r256Write (wdata % 2 ^ cfg.itemW)) ∧ decode cfg 0x05#8 wdata = .ok .r256Read) ∧
    (∀ size mode, cfg.variant = .rn size mode →
      decode cfg 0x00#8 wdata = .ok .rnIsempty ∧ decode cfg 0x01#8 wdata = .ok .rnIsfull ∧
      decode cfg 0x02#8 wdata = .ok .rnAvailable ∧ decode cfg 0x03#8 wdata = .ok .rnCount ∧
      decode cfg 0x04#8 wdata = .ok (.rnWrite (wdata % 2 ^ cfg.itemW)) ∧ decode cfg 0x05#8 wdata = .ok .rnRead) ∧
    decode cfg 0x06#8 wdata = .error .reservedOp ∧ decode cfg 0x07#8 wdata = .error .reservedOp ∧
    (∀ cmd : Cmd, (∃ i, decode cfg cmd wdata = .ok i) ↔ cmd.toNat ≤ 5)

/-- 30_encoding.md R66: the illegal command words are all but the six, and one that the host presents is refused: the
block's state does not change, there is no response, and the refusal mark is set. The command is taken from the port (the
model's, notes/assumptions/6.md). -/
def Obligations.ReservedWordRefused : Prop :=
  (∀ cmd : Cmd, (cmd.extractLsb' 3 5 ≠ 0#5 ∨ cmd.extractLsb' 0 3 = 0b110#3 ∨ cmd.extractLsb' 0 3 = 0b111#3) ↔
    5 < cmd.toNat) ∧
  (∀ (s : State) (cmd : Cmd) (wdata : Nat) (rest : List HostEvent),
    s.cfg.wf = true → s.port = .command cmd wdata :: rest → 5 < cmd.toNat →
    step s = .refused .reservedEncoding ∧ advance s = { s with port := rest, refusedMark := true })

/-- 30_encoding.md section 3: decoding gives back every instruction an instance has, with every item of `ITEM_W` bits. -/
def Obligations.DecodeOfEncodeIsIdentity : Prop :=
  ∀ (cfg : Config) (i : Instr), i.wf cfg = true → decode cfg (encode i).1 (encode i).2 = .ok i

/-- 30_encoding.md R61 to R64: what decodes is an instruction of the instance, and no other word encodes it. -/
def Obligations.DecodedInstrIsOfInstance : Prop :=
  ∀ (cfg : Config) (cmd : Cmd) (wdata : Nat) (i : Instr), decode cfg cmd wdata = .ok i →
    i.wf cfg = true ∧ encodeCmd i = cmd ∧ (i.isWrite = true → encodeWdata i = wdata % 2 ^ cfg.itemW)

/-- 30_encoding.md R64: the item stored is `WDATA[ITEM_W-1:0]`, and every other operation ignores `WDATA`. -/
def Obligations.WdataReadByWriteOnly : Prop :=
  ∀ (s : State) (cmd : Cmd) (w₁ w₂ : Nat) (rest : List HostEvent),
    (cmd ≠ 0x04#8 →
      step { s with port := .command cmd w₁ :: rest } = step { s with port := .command cmd w₂ :: rest }) ∧
    (∀ t, step { s with port := .command 0x04#8 w₁ :: rest } = .next t → s.tailMoves (.r256Write w₁) = true →
      readSlot t.items s.regs.tailSlot = some (w₁ % 2 ^ s.cfg.itemW))

/-- 30_encoding.md R68: what the assembler accepts is a command the block has, its item below `2^ITEM_W`. -/
def Obligations.AssembledLineDecodes : Prop :=
  ∀ (cfg : Config) (line : List Char) (cmd : Cmd) (wdata : Nat), assembleLine cfg line = .ok (some (cmd, wdata)) →
    wdata < 2 ^ cfg.itemW ∧ ∃ i, decode cfg cmd wdata = .ok i ∧ encode i = (cmd, wdata)

/-! ### Steps, reset and configuration -/

/-- 30_encoding.md R60, R63; 20_memory.md R47: a step takes one command from the port and runs the instruction it
decodes to. -/
def Obligations.StepRunsDecodedInstruction : Prop :=
  ∀ (s : State) (cmd : Cmd) (wdata : Nat) (rest : List HostEvent) (i : Instr),
    s.cfg.wf = true → s.port = .command cmd wdata :: rest → decode s.cfg cmd wdata = .ok i →
    step s = exec i { s with port := rest }

/-- The model's choice (notes/assumptions/2.md), from 20_memory.md R55: with no event left, a step changes nothing. -/
def Obligations.StepWithoutEventKeepsState : Prop :=
  ∀ s : State, s.cfg.wf = true → s.port = [] → step s = .next s

/-- 10_state.md R30; 70_reset_and_hazards.md R180; 30_encoding.md R70: an instance just built, in every configuration, has
the configuration it was built from, its registers zero and its slots without a value; and the reset event, in any state,
gives the registers and the slots of an instance just built. -/
def Obligations.BuiltInstanceIsZeroed : Prop :=
  ∀ cfg : Config, cfg.wf = true → ∃ s, build cfg = .next s ∧ s.cfg = cfg ∧
    (cfg.variant = .r256 → ∃ r, s.regs = .r256 r ∧
      r.head = 0#8 ∧ r.tail = 0#8 ∧ r.genR = 0#1 ∧ r.genW = 0#1 ∧ r.wrapR = 0#32) ∧
    (∀ size mode, cfg.variant = .rn size mode → ∃ r, s.regs = .rn r ∧
      r.head = 0#16 ∧ r.tail = 0#16 ∧ r.wrapR = 0#32) ∧
    (∀ k, readSlot s.items k = none) ∧
    (∀ (u : State) (rest : List HostEvent), u.cfg = cfg → u.port = .reset :: rest →
      ∃ t, step u = .next t ∧ t.cfg = cfg ∧ t.regs = s.regs ∧ t.items = s.items)

/-- 70_reset_and_hazards.md R180, R181; 10_state.md R29, R30: the reset event clears the registers and every slot, and
leaves the configuration and the two marks. What the port and the responses become is the model's
(notes/assumptions/16.md). -/
def Obligations.HostResetZeroesRegistersAndSlots : Prop :=
  ∀ (s : State) (rest : List HostEvent), s.cfg.wf = true → s.port = .reset :: rest →
    ∃ t, step s = .next t ∧ t.cfg = s.cfg ∧ t.port = rest ∧ t.pv = s.pv ∧ t.refusedMark = s.refusedMark ∧
      (s.cfg.variant = .r256 → t.regs = .r256 ⟨0#8, 0#8, 0#1, 0#1, 0#32⟩) ∧
      (∀ size mode, s.cfg.variant = .rn size mode → t.regs = .rn ⟨0#16, 0#16, 0#32⟩) ∧
      (∀ k, readSlot t.items k = none)

/-- 00_scope.md R5, R6; 60_exceptions.md R162: which configurations are refused when an instance is built. `SIZE = 1` is
admitted. (A parameter outside its enumeration is no term of the model's type: notes/assumptions/15.md.) -/
def Obligations.BadConfigurationRefused : Prop :=
  ∀ cfg : Config,
    (build cfg = .refused .badConfiguration ↔
      (∃ size mode, cfg.variant = .rn size mode ∧ (size = 0 ∨ size > 32768)) ∨ cfg.itemW < 1 ∨ cfg.cntW ≠ 32) ∧
    ((∃ s, build cfg = .next s) ∨ build cfg = .refused .badConfiguration)

/-- The model's choice where the spec has no such state: an instruction of the other variant is refused
(notes/assumptions/8.md, from 30_encoding.md R63), and so is every step of a refused configuration
(notes/assumptions/15.md, from 60_exceptions.md R162). -/
def Obligations.ImpossibleInstanceRefused : Prop :=
  (∀ (s : State) (i : Instr), i.ofVariant s.cfg.variant = false → exec i s = .refused .otherVariant) ∧
  (∀ s : State, build s.cfg = .refused .badConfiguration → step s = .refused .badConfiguration)

/-- The model's choice where the spec has no such state (notes/assumptions/7.md, from 20_memory.md R40, R41): an access to
a slot outside `[0, CAP)` faults. -/
def Obligations.SlotOutsideStoreFaults : Prop :=
  ∀ (s : State) (size : Nat) (mode : AvailableNMode) (r : RNRegs), s.IsRN size mode r →
    (∀ wdata, size ≤ r.tail.toNat → s.tailMoves (.rnWrite wdata) = true →
      exec (.rnWrite wdata) s = .fault (.slotOutOfRange r.tail.toNat)) ∧
    (size ≤ r.head.toNat → r.head ≠ r.tail → exec .rnRead s = .fault (.slotOutOfRange r.head.toNat))

/-! ### Queries -/

/-- 41_fixed_ring_256.md R100. -/
def Obligations.R256IsemptyResult : Prop :=
  ∀ (s : State) (r : R256Regs), s.IsR256 r →
    (∀ w, decode s.cfg 0x00#8 w = .ok .r256Isempty) ∧
    exec .r256Isempty s = .next { s with responses := s.responses ++
      [⟨1#1, 0, if r.head = r.tail ∧ r.genR = r.genW then 1#32 else 0#32⟩] }

/-- 41_fixed_ring_256.md R101. -/
def Obligations.R256IsfullResult : Prop :=
  ∀ (s : State) (r : R256Regs), s.IsR256 r →
    (∀ w, decode s.cfg 0x01#8 w = .ok .r256Isfull) ∧
    exec .r256Isfull s = .next { s with responses := s.responses ++
      [⟨1#1, 0, if r.head = r.tail ∧ r.genR ≠ r.genW then 1#32 else 0#32⟩] }

/-- 41_fixed_ring_256.md R102. -/
def Obligations.R256AvailableResult : Prop :=
  ∀ (s : State) (r : R256Regs), s.IsR256 r →
    (∀ w, decode s.cfg 0x02#8 w = .ok .r256Available) ∧
    exec .r256Available s = .next { s with responses := s.responses ++
      [⟨1#1, 0, if r.head = r.tail ∧ r.genR ≠ r.genW then 255#32
        else BitVec.ofInt 32 (((r.tail.toNat : Int) - r.head.toNat) % 256)⟩] }

/-- 41_fixed_ring_256.md R103. -/
def Obligations.R256CountResult : Prop :=
  ∀ (s : State) (r : R256Regs), s.IsR256 r →
    (∀ w, decode s.cfg 0x03#8 w = .ok .r256Count) ∧
    exec .r256Count s = .next { s with responses := s.responses ++
      [⟨1#1, 0, BitVec.ofNat 32 ((r.wrapR.toNat * 256 + r.head.toNat) % 2 ^ 32)⟩] }

/-- 42_fixed_ring_n.md R120. -/
def Obligations.RNIsemptyResult : Prop :=
  ∀ (s : State) (size : Nat) (mode : AvailableNMode) (r : RNRegs), s.IsRN size mode r →
    (∀ w, decode s.cfg 0x00#8 w = .ok .rnIsempty) ∧
    exec .rnIsempty s = .next { s with responses := s.responses ++
      [⟨1#1, 0, if r.head = r.tail then 1#32 else 0#32⟩] }

/-- 42_fixed_ring_n.md R121. -/
def Obligations.RNIsfullResult : Prop :=
  ∀ (s : State) (size : Nat) (mode : AvailableNMode) (r : RNRegs), s.IsRN size mode r → 1 ≤ size →
    (∀ w, decode s.cfg 0x01#8 w = .ok .rnIsfull) ∧
    exec .rnIsfull s = .next { s with responses := s.responses ++
      [⟨1#1, 0, if (r.tail.toNat : Int) = ((r.head.toNat : Int) + size - 1) % size then 1#32 else 0#32⟩] }

/-- 42_fixed_ring_n.md R122, in both modes. -/
def Obligations.RNAvailableResult : Prop :=
  ∀ (s : State) (size : Nat) (mode : AvailableNMode) (r : RNRegs), s.IsRN size mode r → 1 ≤ size → size ≤ 32768 →
    (∀ w, decode s.cfg 0x02#8 w = .ok .rnAvailable) ∧
    (mode = .bugCompatible → exec .rnAvailable s = .next { s with responses := s.responses ++
      [⟨1#1, 0, BitVec.ofInt 32 (((r.tail.toNat : Int) - r.head.toNat) % 65536)⟩] }) ∧
    (mode = .corrected → exec .rnAvailable s = .next { s with responses := s.responses ++
      [⟨1#1, 0, BitVec.ofInt 32 (((r.tail.toNat : Int) - r.head.toNat + size) % size)⟩] })

/-- 42_fixed_ring_n.md R123. -/
def Obligations.RNCountResult : Prop :=
  ∀ (s : State) (size : Nat) (mode : AvailableNMode) (r : RNRegs), s.IsRN size mode r →
    (∀ w, decode s.cfg 0x03#8 w = .ok .rnCount) ∧
    exec .rnCount s = .next { s with responses := s.responses ++
      [⟨1#1, 0, BitVec.ofNat 32 ((r.wrapR.toNat * size + r.head.toNat) % 2 ^ 32)⟩] }

/-- 10_state.md R35, 30_encoding.md R65: a query changes nothing but what the host sees, where it answers `ACK = 1` and
`RDATA = 0`. The frame of the eight queries: ISEMPTY, ISFULL, AVAILABLE, COUNT of R256 and of RN. -/
def Obligations.QueriesChangeNoState : Prop :=
  ∀ (i : Instr) (s t : State), i.changesState = false → exec i s = .next t →
    ∃ value, t = { s with responses := s.responses ++ [⟨1#1, 0, value⟩] }

/-! ### WRITE and READ -/

/-- 41_fixed_ring_256.md R104: WRITE of R256, under each policy. -/
def Obligations.R256WriteResult : Prop :=
  ∀ (s : State) (r : R256Regs) (wdata : Nat), s.IsR256 r →
    decode s.cfg 0x04#8 wdata = .ok (.r256Write (wdata % 2 ^ s.cfg.itemW)) ∧
    ((s.cfg.overwritePolicy = .unchecked ∨ ¬(r.head = r.tail ∧ r.genR ≠ r.genW)) →
      exec (.r256Write wdata) s = .next { s with
        items := writeSlot s.items r.tail.toNat (wdata % 2 ^ s.cfg.itemW)
        regs := .r256 { r with tail := r.tail + 1#8, genW := if r.tail = 255#8 then r.genW ^^^ 1#1 else r.genW }
        pv := if r.head = r.tail ∧ r.genR ≠ r.genW then { s.pv with writeWhileFull := true } else s.pv
        responses := s.responses ++ [⟨1#1, 0, 0#32⟩] }) ∧
    (s.cfg.overwritePolicy = .overwriteOldest → r.head = r.tail → r.genR ≠ r.genW →
      exec (.r256Write wdata) s = .next { s with
        items := writeSlot s.items r.tail.toNat (wdata % 2 ^ s.cfg.itemW)
        regs := .r256
          { head := r.head + 1#8
            tail := r.tail + 1#8
            genR := if r.head = 255#8 then r.genR ^^^ 1#1 else r.genR
            genW := if r.tail = 255#8 then r.genW ^^^ 1#1 else r.genW
            wrapR := if r.head = 255#8 then r.wrapR + 1#32 else r.wrapR }
        responses := s.responses ++ [⟨1#1, 0, 0#32⟩] }) ∧
    (s.cfg.overwritePolicy = .reject → r.head = r.tail → r.genR ≠ r.genW →
      exec (.r256Write wdata) s = .next { s with responses := s.responses ++ [⟨0#1, 0, 0#32⟩] })

/-- 41_fixed_ring_256.md R105: READ of R256, under each policy. A read while empty or of a slot with no value returns a
free value; the counter it is drawn at, `draws`, is the model's (notes/assumptions/4.md). -/
def Obligations.R256ReadResult : Prop :=
  ∀ (s : State) (r r' : R256Regs), s.IsR256 r →
    r' = { r with
      head := r.head + 1#8
      genR := if r.head = 255#8 then r.genR ^^^ 1#1 else r.genR
      wrapR := if r.head = 255#8 then r.wrapR + 1#32 else r.wrapR } →
    (∀ w, decode s.cfg 0x05#8 w = .ok .r256Read) ∧
    (s.cfg.emptyReadPolicy = .reject → r.head = r.tail → r.genR = r.genW →
      exec .r256Read s = .next { s with responses := s.responses ++ [⟨0#1, 0, 0#32⟩] }) ∧
    (s.cfg.emptyReadPolicy = .unchecked → r.head = r.tail → r.genR = r.genW →
      exec .r256Read s = .next { s with
        regs := .r256 r'
        pv := { s.pv with readWhileEmpty := true }
        draws := s.draws + 1
        responses := s.responses ++ [⟨1#1, (Config.draw s.cfg.itemW s.draws).toNat, 0#32⟩] }) ∧
    (∀ v, ¬(r.head = r.tail ∧ r.genR = r.genW) → readSlot s.items r.head.toNat = some v →
      exec .r256Read s = .next { s with regs := .r256 r', responses := s.responses ++ [⟨1#1, v, 0#32⟩] }) ∧
    (¬(r.head = r.tail ∧ r.genR = r.genW) → readSlot s.items r.head.toNat = none →
      exec .r256Read s = .next { s with
        regs := .r256 r'
        pv := { s.pv with readUnwritten := true }
        draws := s.draws + 1
        responses := s.responses ++ [⟨1#1, (Config.draw s.cfg.itemW s.draws).toNat, 0#32⟩] })

/-- 42_fixed_ring_n.md R124: WRITE of RN, under each policy, with `tail` in the store (10_state.md R31). -/
def Obligations.RNWriteResult : Prop :=
  ∀ (s : State) (size : Nat) (mode : AvailableNMode) (r : RNRegs) (wdata : Nat), s.IsRN size mode r →
    r.tail.toNat < size →
    decode s.cfg 0x04#8 wdata = .ok (.rnWrite (wdata % 2 ^ s.cfg.itemW)) ∧
    ((s.cfg.overwritePolicy = .unchecked ∨ r.tail.toNat ≠ (r.head.toNat + size - 1) % size) →
      exec (.rnWrite wdata) s = .next { s with
        items := writeSlot s.items r.tail.toNat (wdata % 2 ^ s.cfg.itemW)
        regs := .rn { r with tail := if r.tail.toNat + 1 = size then 0#16 else r.tail + 1#16 }
        pv := if r.tail.toNat = (r.head.toNat + size - 1) % size then { s.pv with writeWhileFull := true } else s.pv
        responses := s.responses ++ [⟨1#1, 0, 0#32⟩] }) ∧
    (s.cfg.overwritePolicy = .overwriteOldest → r.tail.toNat = (r.head.toNat + size - 1) % size →
      exec (.rnWrite wdata) s = .next { s with
        items := writeSlot s.items r.tail.toNat (wdata % 2 ^ s.cfg.itemW)
        regs := .rn
          { head := if r.head.toNat + 1 = size then 0#16 else r.head + 1#16
            tail := if r.tail.toNat + 1 = size then 0#16 else r.tail + 1#16
            wrapR := if r.head.toNat + 1 = size then r.wrapR + 1#32 else r.wrapR }
        responses := s.responses ++ [⟨1#1, 0, 0#32⟩] }) ∧
    (s.cfg.overwritePolicy = .reject → r.tail.toNat = (r.head.toNat + size - 1) % size →
      exec (.rnWrite wdata) s = .next { s with responses := s.responses ++ [⟨0#1, 0, 0#32⟩] })

/-- 42_fixed_ring_n.md R125: READ of RN, under each policy, with `head` in the store (10_state.md R31). A read while
empty or of a slot with no value returns a free value; the counter it is drawn at, `draws`, is the model's
(notes/assumptions/4.md). -/
def Obligations.RNReadResult : Prop :=
  ∀ (s : State) (size : Nat) (mode : AvailableNMode) (r r' : RNRegs), s.IsRN size mode r → r.head.toNat < size →
    r' = { r with
      head := if r.head.toNat + 1 = size then 0#16 else r.head + 1#16
      wrapR := if r.head.toNat + 1 = size then r.wrapR + 1#32 else r.wrapR } →
    (∀ w, decode s.cfg 0x05#8 w = .ok .rnRead) ∧
    (s.cfg.emptyReadPolicy = .reject → r.head = r.tail →
      exec .rnRead s = .next { s with responses := s.responses ++ [⟨0#1, 0, 0#32⟩] }) ∧
    (s.cfg.emptyReadPolicy = .unchecked → r.head = r.tail →
      exec .rnRead s = .next { s with
        regs := .rn r'
        pv := { s.pv with readWhileEmpty := true }
        draws := s.draws + 1
        responses := s.responses ++ [⟨1#1, (Config.draw s.cfg.itemW s.draws).toNat, 0#32⟩] }) ∧
    (∀ v, r.head ≠ r.tail → readSlot s.items r.head.toNat = some v →
      exec .rnRead s = .next { s with regs := .rn r', responses := s.responses ++ [⟨1#1, v, 0#32⟩] }) ∧
    (r.head ≠ r.tail → readSlot s.items r.head.toNat = none →
      exec .rnRead s = .next { s with
        regs := .rn r'
        pv := { s.pv with readUnwritten := true }
        draws := s.draws + 1
        responses := s.responses ++ [⟨1#1, (Config.draw s.cfg.itemW s.draws).toNat, 0#32⟩] })

/-- 41_fixed_ring_256.md R104, 42_fixed_ring_n.md R124, 20_memory.md R42: the frame of WRITE of R256 and of RN. The one
slot stored to is the one `tail` names in the state found. -/
def Obligations.WriteFrame : Prop :=
  ∀ (i : Instr) (s t : State), i.isWrite = true → exec i s = .next t →
    (∀ k, k ≠ s.regs.tailSlot → readSlot t.items k = readSlot s.items k) ∧
    (s.tailMoves i = false → t.items = s.items ∧ t.regs = s.regs ∧ t.pv = s.pv) ∧
    (s.headMoves i = false → t.regs.headSlot = s.regs.headSlot ∧ t.regs.wrapR = s.regs.wrapR) ∧
    (∀ r, s.regs = .r256 r → ∃ r', t.regs = .r256 r' ∧
      (s.headMoves i = false → r'.genR = r.genR) ∧ (r.tail ≠ 255#8 → r'.genW = r.genW)) ∧
    t.pv.readWhileEmpty = s.pv.readWhileEmpty ∧ t.pv.readUnwritten = s.pv.readUnwritten ∧
    t.cfg = s.cfg ∧ t.port = s.port ∧ t.refusedMark = s.refusedMark ∧ t.draws = s.draws ∧
    (∃ ack, t.responses = s.responses ++ [⟨ack, 0, 0#32⟩])

/-- 41_fixed_ring_256.md R105, 42_fixed_ring_n.md R125, 20_memory.md R42: the frame of READ of R256 and of RN. It stores
nothing. -/
def Obligations.ReadFrame : Prop :=
  ∀ (i : Instr) (s t : State), i.isRead = true → exec i s = .next t →
    t.items = s.items ∧ t.regs.tailSlot = s.regs.tailSlot ∧
    (s.headMoves i = false → t.regs = s.regs ∧ t.pv = s.pv) ∧
    (∀ r, s.regs = .r256 r → ∃ r', t.regs = .r256 r' ∧ r'.genW = r.genW ∧
      (r.head ≠ 255#8 → r'.genR = r.genR ∧ r'.wrapR = r.wrapR)) ∧
    (∀ r, s.regs = .rn r → r.head.toNat + 1 ≠ s.cfg.cap → t.regs.wrapR = r.wrapR) ∧
    t.pv.writeWhileFull = s.pv.writeWhileFull ∧
    (s.empty = false → readSlot s.items s.regs.headSlot ≠ none → t.pv = s.pv ∧ t.draws = s.draws) ∧
    t.cfg = s.cfg ∧ t.port = s.port ∧ t.refusedMark = s.refusedMark ∧
    (∃ ack data, t.responses = s.responses ++ [⟨ack, data, 0#32⟩])

/-! ### Index advance and detection -/

/-- 40_index_and_detector.md R80, R81, R82: the advance of R256. -/
def Obligations.AdvanceOfR256 : Prop :=
  (∀ i : Index8, (adv256 i).1.toNat = (i.toNat + 1) % 256 ∧ ((adv256 i).2 = true ↔ i.toNat = 255) ∧
    ((adv256 i).2 = true ↔ (adv256 i).1 = 0#8)) ∧
  (∀ r : R256Regs,
    r.advanceHead.head = (adv256 r.head).1 ∧ r.advanceHead.tail = r.tail ∧ r.advanceHead.genW = r.genW ∧
    (r.head.toNat = 255 → r.advanceHead.genR = r.genR ^^^ 1#1 ∧
      r.advanceHead.wrapR.toNat = (r.wrapR.toNat + 1) % 2 ^ 32) ∧
    (r.head.toNat ≠ 255 → r.advanceHead.genR = r.genR ∧ r.advanceHead.wrapR = r.wrapR)) ∧
  (∀ r : R256Regs,
    r.advanceTail.tail = (adv256 r.tail).1 ∧ r.advanceTail.head = r.head ∧ r.advanceTail.genR = r.genR ∧
    r.advanceTail.wrapR = r.wrapR ∧
    r.advanceTail.genW = if r.tail.toNat = 255 then r.genW ^^^ 1#1 else r.genW)

/-- 40_index_and_detector.md R83, R84, R85: the advance of RN, for every admitted `SIZE` and index below it. -/
def Obligations.AdvanceOfRN : Prop :=
  ∀ size : Nat, 1 ≤ size → size ≤ 32768 →
    (∀ i : Index16, i.toNat < size →
      (advN size i).1.toNat = (if i.toNat + 1 = size then 0 else i.toNat + 1) ∧
      ((advN size i).2 = true ↔ i.toNat + 1 = size) ∧ (size = 1 → (advN size i).2 = true)) ∧
    (∀ r : RNRegs, r.head.toNat < size →
      (r.advanceHead size).head = (advN size r.head).1 ∧ (r.advanceHead size).tail = r.tail ∧
      (r.advanceHead size).wrapR.toNat =
        if r.head.toNat + 1 = size then (r.wrapR.toNat + 1) % 2 ^ 32 else r.wrapR.toNat) ∧
    (∀ r : RNRegs, r.tail.toNat < size → r.advanceTail size = { r with tail := (advN size r.tail).1 })

/-- 40_index_and_detector.md R89: the two forms of FULL of RN, for indices in `[0, SIZE)`. -/
def Obligations.FullNIsTailJustBeforeHead : Prop :=
  ∀ (size : Nat) (r : RNRegs), 1 ≤ size → r.head.toNat < size → r.tail.toNat < size →
    (r.full size = true ↔ (r.tail.toNat : Int) = ((r.head.toNat : Int) + size - 1) % size) ∧
    (r.full size = true ↔ (r.tail.toNat + 1) % size = r.head.toNat) ∧
    (r.head.toNat = 0 → (r.full size = true ↔ r.tail.toNat = size - 1))

/-- 40_index_and_detector.md R90: EMPTY and FULL exclude each other, in R256 always and in RN for `SIZE ≥ 2`; with
`SIZE = 1` both are true. -/
def Obligations.EmptyAndFullExclusive : Prop :=
  (∀ r : R256Regs, ¬(r.empty = true ∧ r.full = true)) ∧
  (∀ (size : Nat) (r : RNRegs), 2 ≤ size → r.head.toNat < size → r.tail.toNat < size →
    ¬(r.empty = true ∧ r.full size = true)) ∧
  (∀ r : RNRegs, r.head.toNat < 1 → r.tail.toNat < 1 → r.empty = true ∧ r.full 1 = true)

/-- 40_index_and_detector.md R91: the 9-bit view of R256. -/
def Obligations.OccupancyOfR256 : Prop :=
  ∀ r : R256Regs,
    r.advanceTail.t9 = r.t9 + 1#9 ∧ r.advanceTail.h9 = r.h9 ∧
    r.advanceHead.h9 = r.h9 + 1#9 ∧ r.advanceHead.t9 = r.t9 ∧
    (r.empty = true ↔ r.occ = 0) ∧ (r.full = true ↔ r.occ = 256)

/-- 40_index_and_detector.md R92: the occupancy of RN. -/
def Obligations.OccupancyOfRN : Prop :=
  ∀ (size : Nat) (r : RNRegs), 1 ≤ size → size ≤ 32768 → r.head.toNat < size → r.tail.toNat < size →
    (r.advanceTail size).occ size = (r.occ size + 1) % size ∧
    (r.advanceHead size).occ size = (r.occ size + size - 1) % size ∧
    (r.empty = true ↔ r.occ size = 0) ∧ (2 ≤ size → (r.full size = true ↔ r.occ size = size - 1)) ∧
    r.occ size ≤ size - 1

/-! ### Invariants and rules of the whole machine -/

/-- 10_state.md R31, 20_memory.md R40, R41: every step keeps `head` and `tail` in `[0, CAP)`, the registers of the
variant, and the store in its canonical form with items of `ITEM_W` bits in existing slots. -/
def Obligations.StepKeepsInv : Prop :=
  ∀ s t : State, s.Inv → step s = .next t → t.Inv

/-- 10_state.md R30 to R32: the invariants hold of every instance just built, and of `State.reset`, the instance built from
`Config.default` (the model's choice, notes/assumptions/1.md). No mark is set then (DEDUCED, notes/assumptions/9.md). -/
def Obligations.ResetMeetsInvariants : Prop :=
  (∀ cfg : Config, cfg.wf = true →
    (State.built cfg).Inv ∧ (State.built cfg).GenParity ∧ (State.built cfg).QueueSound ∧ (State.built cfg).Clean) ∧
  build Config.default = .next State.reset ∧ State.reset.Inv ∧ State.reset.GenParity ∧ State.reset.QueueSound ∧ State.reset.Clean

/-- 60_exceptions.md R160, 00_scope.md R10: from a state of the invariant no step faults, and the only refusal is that of
a reserved command word, exactly when the host presents one. -/
def Obligations.StepNeverFaults : Prop :=
  ∀ s : State, s.Inv →
    (∃ t, step s = .next t) ∨
    (step s = .refused .reservedEncoding ∧ ∃ cmd wdata rest, s.port = .command cmd wdata :: rest ∧ 5 < cmd.toNat)

/-- 10_state.md R32: every step keeps `genR = wrapR[0]`. -/
def Obligations.StepKeepsGenParity : Prop :=
  ∀ s t : State, s.GenParity → step s = .next t → t.GenParity

/-- 40_index_and_detector.md R91, R92; 10_state.md R33: while no precondition is broken, the occupancy stays within the
usable capacity and every slot of the queue holds a value. -/
def Obligations.StepKeepsQueueSound : Prop :=
  ∀ s t : State, s.Inv → (s.pvEmpty → s.QueueSound) → step s = .next t → t.pvEmpty → t.QueueSound

/-- 00_scope.md R3: no step changes the configuration, not even the reset event. -/
def Obligations.StepKeepsConfiguration : Prop :=
  ∀ s t : State, step s = .next t → t.cfg = s.cfg

/-- 10_state.md R29: the marks are never cleared, not even by reset, and a refusal sets `REFUSED`. -/
def Obligations.MarksAreSticky : Prop :=
  ∀ s : State,
    (s.pv.writeWhileFull = true → (advance s).pv.writeWhileFull = true) ∧
    (s.pv.readWhileEmpty = true → (advance s).pv.readWhileEmpty = true) ∧
    (s.pv.readUnwritten = true → (advance s).pv.readUnwritten = true) ∧
    (s.refusedMark = true → (advance s).refusedMark = true) ∧
    (∀ reason, step s = .refused reason → (advance s).refusedMark = true)

/-- 10_state.md R29: no operation reads the marks. Two states that differ only in them step to states that differ only
in them. -/
def Obligations.MarksAreNeverRead : Prop :=
  ∀ (s t : State) (p : PVMarks) (b : Bool), step s = .next t →
    ∃ p', step { s with pv := p, refusedMark := b } = .next { t with pv := p', refusedMark := b }

/-- 60_exceptions.md R161: which instruction marks which reason, on the state found. -/
def Obligations.ReasonsMarked : Prop :=
  ∀ (i : Instr) (s t : State), exec i s = .next t →
    (t.pv.writeWhileFull = true ↔ s.pv.writeWhileFull = true ∨
      (i.isWrite = true ∧ s.cfg.overwritePolicy = .unchecked ∧ s.full = true)) ∧
    (t.pv.readWhileEmpty = true ↔ s.pv.readWhileEmpty = true ∨
      (i.isRead = true ∧ s.cfg.emptyReadPolicy = .unchecked ∧ s.empty = true)) ∧
    (t.pv.readUnwritten = true ↔ s.pv.readUnwritten = true ∨
      (i.isRead = true ∧ s.empty = false ∧ readSlot s.items s.regs.headSlot = none))

/-- 10_state.md R33: a slot that holds a value holds one after every step but a reset. -/
def Obligations.WrittenSlotKeepsAValue : Prop :=
  ∀ (s t : State) (k : Nat), step s = .next t → (∀ rest, s.port ≠ .reset :: rest) →
    readSlot s.items k ≠ none → readSlot t.items k ≠ none

/-- 10_state.md R34: `tail` moves by exactly one slot at a WRITE that changes the state, `head` by exactly one at a READ
that changes it and at a WRITE that finds the buffer full under `OVERWRITE_OLDEST`, and neither moves otherwise. A WRITE or READ that a `REJECT` policy declines changes nothing (its
response has `ACK = 0`). -/
def Obligations.IndicesMoveByOneSlot : Prop :=
  ∀ (i : Instr) (s t : State), s.Inv → exec i s = .next t →
    t.regs.tailSlot = (if s.tailMoves i then (s.regs.tailSlot + 1) % s.cfg.cap else s.regs.tailSlot) ∧
    t.regs.headSlot = (if s.headMoves i then (s.regs.headSlot + 1) % s.cfg.cap else s.regs.headSlot) ∧
    (i.changesState = true → s.tailMoves i = false → s.headMoves i = false →
      t = { s with responses := s.responses ++ [⟨0#1, 0, 0#32⟩] })

/-- 40_index_and_detector.md R95: the COUNT result grows by one, modulo `2^32`, at each advance of `head`, and by nothing
else. -/
def Obligations.CountGrowsWithHead : Prop :=
  ∀ (i : Instr) (s t : State), s.Inv → exec i s = .next t →
    t.readPosition = if s.headMoves i then s.readPosition + 1#32 else s.readPosition

/-! ### The queue -/

/-- 40_index_and_detector.md R94: a WRITE that does not find the buffer full puts its item at the end of the queue. -/
def Obligations.WriteAppendsToQueue : Prop :=
  ∀ (i : Instr) (s t : State), s.Inv → i.isWrite = true → s.full = false → s.occ ≤ s.cfg.usableCapacity →
    exec i s = .next t → t.queue = s.queue ++ [some (encodeWdata i % 2 ^ s.cfg.itemW)]

/-- 40_index_and_detector.md R94: a READ that does not find the buffer empty takes the oldest item of the queue and
returns it. -/
def Obligations.ReadTakesTheOldest : Prop :=
  ∀ (i : Instr) (s t : State), s.Inv → i.isRead = true → s.empty = false → s.QueueSound → exec i s = .next t →
    ∃ v, s.queue = some v :: t.queue ∧ t.lastResponse = some ⟨1#1, v, 0#32⟩

/-- 41_fixed_ring_256.md R110, 42_fixed_ring_n.md R130 (with at least two slots): under `OVERWRITE_OLDEST` a WRITE that finds the buffer full drops
the oldest item, puts its own at the end, and leaves the buffer full. -/
def Obligations.OverwriteDropsTheOldest : Prop :=
  ∀ (i : Instr) (s : State), s.Inv → i.isWrite = true → i.ofVariant s.cfg.variant = true → 2 ≤ s.cfg.cap →
    s.cfg.overwritePolicy = .overwriteOldest → s.full = true →
    ∃ t, exec i s = .next t ∧ t.full = true ∧ t.pv = s.pv ∧ t.readPosition = s.readPosition + 1#32 ∧
      t.queue = s.queue.tail ++ [some (encodeWdata i % 2 ^ s.cfg.itemW)]

/-- 20_memory.md R48, 70_reset_and_hazards.md R187: from any state with an empty buffer that may hold an item, a WRITE
and then at once a READ return the item, and leave the buffer empty. -/
def Obligations.WriteThenReadReturnsItem : Prop :=
  ∀ (s : State) (item : Item), s.Inv → s.empty = true → s.full = false → item < 2 ^ s.cfg.itemW →
    ∃ t u, exec (match s.cfg.variant with | .r256 => .r256Write item | .rn _ _ => .rnWrite item) s = .next t ∧
      exec (match s.cfg.variant with | .r256 => .r256Read | .rn _ _ => .rnRead) t = .next u ∧
      u.lastResponse = some ⟨1#1, item, 0#32⟩ ∧ u.empty = true

/-- 70_reset_and_hazards.md R184: a consumer's READ of a buffer that is neither empty nor full leaves it not full, so the
producer's check stays valid. -/
def Obligations.ReadKeepsNotFull : Prop :=
  ∀ (i : Instr) (s t : State), s.Inv → i.isRead = true → s.occ ≤ s.cfg.usableCapacity → s.empty = false →
    s.full = false → exec i s = .next t → t.full = false

/-- 70_reset_and_hazards.md R185: a producer's WRITE to a buffer that is not full leaves it not empty, so the consumer's
check stays valid. -/
def Obligations.WriteKeepsNotEmpty : Prop :=
  ∀ (i : Instr) (s t : State), s.Inv → i.isWrite = true → s.occ ≤ s.cfg.usableCapacity → s.full = false →
    exec i s = .next t → t.empty = false

/-! ### Consequences the rules fix -/

/-- 41_fixed_ring_256.md R106: a WRITE while full under `UNCHECKED`, and the READ after it. -/
def Obligations.R256WriteWhileFull : Prop :=
  ∀ (s : State) (r : R256Regs) (wdata : Nat), s.IsR256 r → s.cfg.overwritePolicy = .unchecked →
    r.head = r.tail → r.genR ≠ r.genW →
    ∃ t r', exec (.r256Write wdata) s = .next t ∧ t.IsR256 r' ∧ t.pv.writeWhileFull = true ∧
      readSlot t.items r.head.toNat = some (wdata % 2 ^ s.cfg.itemW) ∧
      r'.tail.toNat = (r.head.toNat + 1) % 256 ∧ r'.head = r.head ∧ r'.genR = r.genR ∧ r'.wrapR = r.wrapR ∧
      (r.head = 255#8 → r'.genR = r'.genW) ∧ (r.head ≠ 255#8 → r'.genW = r.genW) ∧
      t.full = false ∧ t.empty = false ∧ r'.occ = 257 ∧
      exec .r256Available t = .next (t.answer 1#32) ∧
      ∃ u, exec .r256Read t = .next u ∧ u.lastResponse = some ⟨1#1, wdata % 2 ^ s.cfg.itemW, 0#32⟩ ∧
        u.regs.headSlot = u.regs.tailSlot ∧ exec .r256Isfull u = .next (u.answer 1#32)

/-- 41_fixed_ring_256.md R107: a READ while empty under `UNCHECKED`. -/
def Obligations.R256ReadWhileEmpty : Prop :=
  ∀ (s : State) (r : R256Regs), s.IsR256 r → s.cfg.emptyReadPolicy = .unchecked → r.head = r.tail → r.genR = r.genW →
    ∃ t r', exec .r256Read s = .next t ∧ t.IsR256 r' ∧ t.pv.readWhileEmpty = true ∧
      t.lastResponse = some ⟨1#1, (Config.draw s.cfg.itemW s.draws).toNat, 0#32⟩ ∧
      r'.head.toNat = (r.head.toNat + 1) % 256 ∧ r'.tail = r.tail ∧
      (r.head = 255#8 → r'.genR ≠ r.genR ∧ r'.wrapR = r.wrapR + 1#32) ∧
      (r.head ≠ 255#8 → r'.genR = r.genR ∧ r'.wrapR = r.wrapR) ∧
      t.empty = false ∧ t.full = false ∧ r'.occ = 511 ∧ exec .r256Available t = .next (t.answer 255#32)

/-- 42_fixed_ring_n.md R126: a WRITE while full under `UNCHECKED`, for `SIZE ≥ 2`: the buffer then looks empty. -/
def Obligations.RNWriteWhileFull : Prop :=
  ∀ (s : State) (size : Nat) (mode : AvailableNMode) (r : RNRegs) (wdata : Nat), s.IsRN size mode r →
    2 ≤ size → size ≤ 32768 → r.head.toNat < size → r.tail.toNat = (r.head.toNat + size - 1) % size →
    s.cfg.overwritePolicy = .unchecked →
    ∃ t r', exec (.rnWrite wdata) s = .next t ∧ t.IsRN size mode r' ∧ t.pv.writeWhileFull = true ∧
      readSlot t.items r.tail.toNat = some (wdata % 2 ^ s.cfg.itemW) ∧
      r'.head = r.head ∧ r'.tail = r.head ∧ t.empty = true ∧ t.full = false ∧
      exec .rnAvailable t = .next (t.answer 0#32) ∧ exec .rnIsempty t = .next (t.answer 1#32)

/-- 42_fixed_ring_n.md R127: a READ while empty under `UNCHECKED`, for `SIZE ≥ 2`: the buffer then looks full. -/
def Obligations.RNReadWhileEmpty : Prop :=
  ∀ (s : State) (size : Nat) (mode : AvailableNMode) (r : RNRegs), s.IsRN size mode r →
    2 ≤ size → size ≤ 32768 → r.head.toNat < size → r.head = r.tail → s.cfg.emptyReadPolicy = .unchecked →
    ∃ t r' a, exec .rnRead s = .next t ∧ t.IsRN size mode r' ∧ t.pv.readWhileEmpty = true ∧
      t.lastResponse = some ⟨1#1, (Config.draw s.cfg.itemW s.draws).toNat, 0#32⟩ ∧
      r'.head.toNat = (r.head.toNat + 1) % size ∧ r'.tail = r.tail ∧
      r'.wrapR = (if r.head.toNat = size - 1 then r.wrapR + 1#32 else r.wrapR) ∧
      t.empty = false ∧ t.full = true ∧ exec .rnAvailable t = .next (t.answer (BitVec.ofNat 32 a)) ∧
      (mode = .corrected → a = size - 1) ∧
      (mode = .bugCompatible → a = if r.head.toNat < size - 1 then 65535 else size - 1)

/-- 42_fixed_ring_n.md R131: an instance of `SIZE = 1`: its indices stay 0, ISEMPTY and ISFULL always answer 1, AVAILABLE
answers 0 in both modes, every WRITE finds the buffer full, and every READ finds it empty. -/
def Obligations.SizeOneInstance : Prop :=
  ∀ (s : State) (mode : AvailableNMode) (r : RNRegs) (wdata : Nat), s.Inv → s.IsRN 1 mode r →
    r.head = 0#16 ∧ r.tail = 0#16 ∧ exec .rnIsempty s = .next (s.answer 1#32) ∧
    exec .rnIsfull s = .next (s.answer 1#32) ∧ exec .rnAvailable s = .next (s.answer 0#32) ∧
    (s.cfg.overwritePolicy = .unchecked → ∃ t, exec (.rnWrite wdata) s = .next t ∧ t.regs = s.regs ∧
      readSlot t.items 0 = some (wdata % 2 ^ s.cfg.itemW) ∧ t.pv.writeWhileFull = true) ∧
    (s.cfg.overwritePolicy = .overwriteOldest → ∃ t, exec (.rnWrite wdata) s = .next t ∧
      t.regs = .rn { r with wrapR := r.wrapR + 1#32 } ∧
      readSlot t.items 0 = some (wdata % 2 ^ s.cfg.itemW) ∧ t.pv = s.pv) ∧
    (s.cfg.overwritePolicy = .reject →
      exec (.rnWrite wdata) s = .next { s with responses := s.responses ++ [⟨0#1, 0, 0#32⟩] }) ∧
    (s.cfg.emptyReadPolicy = .unchecked → ∃ t, exec .rnRead s = .next t ∧
      t.regs = .rn { r with wrapR := r.wrapR + 1#32 } ∧ t.pv.readWhileEmpty = true ∧
      t.lastResponse = some ⟨1#1, (Config.draw s.cfg.itemW s.draws).toNat, 0#32⟩) ∧
    (s.cfg.emptyReadPolicy = .reject →
      exec .rnRead s = .next { s with responses := s.responses ++ [⟨0#1, 0, 0#32⟩] })

/-- 41_fixed_ring_256.md R109: the number of held items is 256 when ISFULL is true and the AVAILABLE result otherwise;
AVAILABLE answers 255 both when 255 items are held and when 256 are. -/
def Obligations.R256AvailableAndFullGiveOccupancy : Prop :=
  ∀ r : R256Regs, r.occ ≤ 256 →
    (r.occ = if r.full then 256 else r.available.toNat) ∧ (r.occ = 255 ∨ r.occ = 256 ↔ r.available = 255#8)

/-- 42_fixed_ring_n.md R132, 70_reset_and_hazards.md R188: the number of held items from an AVAILABLE result of RN. -/
def Obligations.RNAvailableGivesOccupancy : Prop :=
  ∀ (size : Nat) (r : RNRegs), 1 ≤ size → size ≤ 32768 → r.head.toNat < size → r.tail.toNat < size →
    (r.available size .corrected).toNat = r.occ size ∧
    (r.tail.toNat < r.head.toNat → size + 1 ≤ (r.available size .bugCompatible).toNat) ∧
    (r.head.toNat ≤ r.tail.toNat → (r.available size .bugCompatible).toNat < size) ∧
    r.occ size =
      if (r.available size .bugCompatible).toNat < size then (r.available size .bugCompatible).toNat
      else ((r.available size .bugCompatible).toNat + size) % 2 ^ 16
end

