-- ==== Sys2Proof/Laws/State.lean ====
section
/-!
SUPPORT. What each update of the state does to each field, once, so that no proof unfolds a record update; and the fields
of an instance just built.
-/

namespace Sys2Proof.Machine

variable (s : State)

@[simp] theorem State.respond_cfg (r : Response) : (s.respond r).cfg = s.cfg := rfl
@[simp] theorem State.respond_regs (r : Response) : (s.respond r).regs = s.regs := rfl
@[simp] theorem State.respond_items (r : Response) : (s.respond r).items = s.items := rfl
@[simp] theorem State.respond_pv (r : Response) : (s.respond r).pv = s.pv := rfl
@[simp] theorem State.respond_refusedMark (r : Response) : (s.respond r).refusedMark = s.refusedMark := rfl
@[simp] theorem State.respond_port (r : Response) : (s.respond r).port = s.port := rfl
@[simp] theorem State.respond_responses (r : Response) : (s.respond r).responses = s.responses ++ [r] := rfl
@[simp] theorem State.respond_draws (r : Response) : (s.respond r).draws = s.draws := rfl

@[simp] theorem State.answer_cfg (value : Count) : (s.answer value).cfg = s.cfg := rfl
@[simp] theorem State.answer_regs (value : Count) : (s.answer value).regs = s.regs := rfl
@[simp] theorem State.answer_items (value : Count) : (s.answer value).items = s.items := rfl
@[simp] theorem State.answer_pv (value : Count) : (s.answer value).pv = s.pv := rfl
@[simp] theorem State.answer_refusedMark (value : Count) : (s.answer value).refusedMark = s.refusedMark := rfl
@[simp] theorem State.answer_port (value : Count) : (s.answer value).port = s.port := rfl
@[simp] theorem State.answer_responses (value : Count) : (s.answer value).responses = s.responses ++ [Response.query value] := rfl
@[simp] theorem State.answer_draws (value : Count) : (s.answer value).draws = s.draws := rfl

@[simp] theorem State.markPV_cfg (p : PVReason) : (s.markPV p).cfg = s.cfg := rfl
@[simp] theorem State.markPV_regs (p : PVReason) : (s.markPV p).regs = s.regs := rfl
@[simp] theorem State.markPV_items (p : PVReason) : (s.markPV p).items = s.items := rfl
@[simp] theorem State.markPV_pv (p : PVReason) : (s.markPV p).pv = s.pv.add p := rfl
@[simp] theorem State.markPV_refusedMark (p : PVReason) : (s.markPV p).refusedMark = s.refusedMark := rfl
@[simp] theorem State.markPV_port (p : PVReason) : (s.markPV p).port = s.port := rfl
@[simp] theorem State.markPV_responses (p : PVReason) : (s.markPV p).responses = s.responses := rfl
@[simp] theorem State.markPV_draws (p : PVReason) : (s.markPV p).draws = s.draws := rfl

@[simp] theorem State.afterDraw_cfg : (s.afterDraw).cfg = s.cfg := rfl
@[simp] theorem State.afterDraw_regs : (s.afterDraw).regs = s.regs := rfl
@[simp] theorem State.afterDraw_items : (s.afterDraw).items = s.items := rfl
@[simp] theorem State.afterDraw_pv : (s.afterDraw).pv = s.pv := rfl
@[simp] theorem State.afterDraw_refusedMark : (s.afterDraw).refusedMark = s.refusedMark := rfl
@[simp] theorem State.afterDraw_port : (s.afterDraw).port = s.port := rfl
@[simp] theorem State.afterDraw_responses : (s.afterDraw).responses = s.responses := rfl
@[simp] theorem State.afterDraw_draws : (s.afterDraw).draws = s.draws + 1 := rfl

@[simp] theorem State.advanceHead_cfg : (s.advanceHead).cfg = s.cfg := rfl
@[simp] theorem State.advanceHead_regs : (s.advanceHead).regs = s.regs.advanceHead s.cfg.cap := rfl
@[simp] theorem State.advanceHead_items : (s.advanceHead).items = s.items := rfl
@[simp] theorem State.advanceHead_pv : (s.advanceHead).pv = s.pv := rfl
@[simp] theorem State.advanceHead_refusedMark : (s.advanceHead).refusedMark = s.refusedMark := rfl
@[simp] theorem State.advanceHead_port : (s.advanceHead).port = s.port := rfl
@[simp] theorem State.advanceHead_responses : (s.advanceHead).responses = s.responses := rfl
@[simp] theorem State.advanceHead_draws : (s.advanceHead).draws = s.draws := rfl

@[simp] theorem State.advanceTail_cfg : (s.advanceTail).cfg = s.cfg := rfl
@[simp] theorem State.advanceTail_regs : (s.advanceTail).regs = s.regs.advanceTail s.cfg.cap := rfl
@[simp] theorem State.advanceTail_items : (s.advanceTail).items = s.items := rfl
@[simp] theorem State.advanceTail_pv : (s.advanceTail).pv = s.pv := rfl
@[simp] theorem State.advanceTail_refusedMark : (s.advanceTail).refusedMark = s.refusedMark := rfl
@[simp] theorem State.advanceTail_port : (s.advanceTail).port = s.port := rfl
@[simp] theorem State.advanceTail_responses : (s.advanceTail).responses = s.responses := rfl
@[simp] theorem State.advanceTail_draws : (s.advanceTail).draws = s.draws := rfl

@[simp] theorem State.applyReset_cfg : (s.applyReset).cfg = s.cfg := rfl
@[simp] theorem State.applyReset_regs : (s.applyReset).regs = Regs.zero s.cfg.variant := rfl
@[simp] theorem State.applyReset_items : (s.applyReset).items = [] := rfl
@[simp] theorem State.applyReset_pv : (s.applyReset).pv = s.pv := rfl
@[simp] theorem State.applyReset_refusedMark : (s.applyReset).refusedMark = s.refusedMark := rfl
@[simp] theorem State.applyReset_port : (s.applyReset).port = s.port := rfl
@[simp] theorem State.applyReset_responses : (s.applyReset).responses = s.responses := rfl
@[simp] theorem State.applyReset_draws : (s.applyReset).draws = s.draws := rfl

@[simp] theorem State.afterRefusal_cfg : (s.afterRefusal).cfg = s.cfg := rfl
@[simp] theorem State.afterRefusal_regs : (s.afterRefusal).regs = s.regs := rfl
@[simp] theorem State.afterRefusal_items : (s.afterRefusal).items = s.items := rfl
@[simp] theorem State.afterRefusal_pv : (s.afterRefusal).pv = s.pv := rfl
@[simp] theorem State.afterRefusal_refusedMark : (s.afterRefusal).refusedMark = true := rfl
@[simp] theorem State.afterRefusal_port : (s.afterRefusal).port = s.port.tail := rfl
@[simp] theorem State.afterRefusal_responses : (s.afterRefusal).responses = s.responses := rfl
@[simp] theorem State.afterRefusal_draws : (s.afterRefusal).draws = s.draws := rfl

@[simp] theorem State.present_cfg (cmd : Cmd) (wdata : Nat) : (s.present cmd wdata).cfg = s.cfg := rfl
@[simp] theorem State.present_regs (cmd : Cmd) (wdata : Nat) : (s.present cmd wdata).regs = s.regs := rfl
@[simp] theorem State.present_items (cmd : Cmd) (wdata : Nat) : (s.present cmd wdata).items = s.items := rfl
@[simp] theorem State.present_pv (cmd : Cmd) (wdata : Nat) : (s.present cmd wdata).pv = s.pv := rfl
@[simp] theorem State.present_refusedMark (cmd : Cmd) (wdata : Nat) : (s.present cmd wdata).refusedMark = s.refusedMark := rfl
@[simp] theorem State.present_port (cmd : Cmd) (wdata : Nat) : (s.present cmd wdata).port = .command cmd wdata :: s.port := rfl
@[simp] theorem State.present_responses (cmd : Cmd) (wdata : Nat) : (s.present cmd wdata).responses = s.responses := rfl
@[simp] theorem State.present_draws (cmd : Cmd) (wdata : Nat) : (s.present cmd wdata).draws = s.draws := rfl

@[simp] theorem State.built_cfg (cfg : Config) : (State.built cfg).cfg = cfg := rfl
@[simp] theorem State.built_regs (cfg : Config) : (State.built cfg).regs = Regs.zero cfg.variant := rfl
@[simp] theorem State.built_items (cfg : Config) : (State.built cfg).items = [] := rfl
@[simp] theorem State.built_pv (cfg : Config) : (State.built cfg).pv = PVMarks.none := rfl
@[simp] theorem State.built_refusedMark (cfg : Config) : (State.built cfg).refusedMark = false := rfl
@[simp] theorem State.built_port (cfg : Config) : (State.built cfg).port = [] := rfl
@[simp] theorem State.built_responses (cfg : Config) : (State.built cfg).responses = [] := rfl
@[simp] theorem State.built_draws (cfg : Config) : (State.built cfg).draws = 0 := rfl

/-! The marks: which reason each addition sets, and that none is ever cleared. -/

@[simp] theorem PVMarks.add_writeWhileFull (p : PVMarks) (x : PVReason) :
    (p.add x).writeWhileFull = (p.writeWhileFull || x == .writeWhileFull) := by
  cases x <;> simp [PVMarks.add]

@[simp] theorem PVMarks.add_readWhileEmpty (p : PVMarks) (x : PVReason) :
    (p.add x).readWhileEmpty = (p.readWhileEmpty || x == .readWhileEmpty) := by
  cases x <;> simp [PVMarks.add]

@[simp] theorem PVMarks.add_readUnwritten (p : PVMarks) (x : PVReason) :
    (p.add x).readUnwritten = (p.readUnwritten || x == .readUnwritten) := by
  cases x <;> simp [PVMarks.add]

/-- A marked set is not empty. -/
theorem PVMarks.add_ne_none (p : PVMarks) (x : PVReason) : p.add x ≠ PVMarks.none := by
  cases x <;> simp [PVMarks.add, PVMarks.none]

/-! The two readings of a state's registers. -/

theorem State.asR256_eq {s : State} {r : R256Regs} : s.asR256 = some r ↔ s.IsR256 r := by
  unfold State.asR256 State.IsR256
  split <;> simp_all

theorem State.asRN_eq {s : State} {size : Nat} {mode : AvailableNMode} {r : RNRegs} :
    s.asRN = some (size, mode, r) ↔ s.IsRN size mode r := by
  unfold State.asRN State.IsRN
  split
  · simp_all [and_assoc]
  · rename_i hno
    simp only [reduceCtorEq, false_iff, not_and]
    exact hno size mode r

theorem State.IsR256.cap {s : State} {r : R256Regs} (h : s.IsR256 r) : s.cfg.cap = 256 := by
  simp [Config.cap, h.1]

theorem State.IsRN.cap {s : State} {size : Nat} {mode : AvailableNMode} {r : RNRegs} (h : s.IsRN size mode r) :
    s.cfg.cap = size := by
  simp [Config.cap, h.1]

end Sys2Proof.Machine
end

