-- ==== Sys2Proof/Laws/Slots.lean ====
section
/-!
SUPPORT. The item store: what a read gives after a write (20_memory.md R41), and that a write keeps the canonical form
and what the instance can hold.
-/

namespace Sys2Proof.Machine

/-- 20_memory.md R41, R48: a write sets its slot and changes no other. -/
theorem readSlot_writeSlot (items : Slots) (i j : Nat) (v : Item) :
    readSlot (writeSlot items i v) j = if j = i then some v else readSlot items j := by
  induction items with
  | nil => simp [writeSlot, readSlot]
  | cons c rest ih =>
    obtain ⟨k, u⟩ := c
    by_cases h1 : i < k
    · simp [writeSlot, readSlot, h1]
    · by_cases h2 : i = k
      · subst h2
        by_cases h3 : j = i <;> simp [writeSlot, readSlot, h3]
      · by_cases h3 : j = k
        · subst h3
          simp [writeSlot, readSlot, h1, h2, Ne.symm h2]
        · simp [writeSlot, readSlot, h1, h2, h3, ih]

/-- A property of the written cell and of every cell of the store holds of every cell afterwards. -/
theorem writeSlot_all (p : Nat × Item → Bool) (items : Slots) (i : Nat) (v : Item) (hi : p (i, v) = true)
    (h : items.all p = true) : (writeSlot items i v).all p = true := by
  induction items with
  | nil => simpa [writeSlot] using hi
  | cons c rest ih =>
    obtain ⟨k, u⟩ := c
    rw [List.all_cons, Bool.and_eq_true] at h
    unfold writeSlot
    split
    · simp only [List.all_cons, hi, h.1, h.2, Bool.and_self]
    · split
      · simp only [List.all_cons, hi, h.2, Bool.and_self]
      · simp only [List.all_cons, h.1, ih h.2, Bool.and_self]

/-- A write keeps the canonical form. -/
theorem writeSlot_rising (items : Slots) (i : Nat) (v : Item) (h : slotsRising items = true) :
    slotsRising (writeSlot items i v) = true := by
  induction items with
  | nil => simp [writeSlot, slotsRising]
  | cons c rest ih =>
    obtain ⟨k, u⟩ := c
    simp only [slotsRising, Bool.and_eq_true] at h
    obtain ⟨hall, hrest⟩ := h
    unfold writeSlot
    split
    · rename_i hik
      simp only [slotsRising, List.all_cons, Bool.and_eq_true, decide_eq_true_eq]
      refine ⟨⟨hik, ?_⟩, hall, hrest⟩
      rw [List.all_eq_true] at hall ⊢
      intro c hc
      have := hall c hc
      simp only [decide_eq_true_eq] at this ⊢
      omega
    · split
      · rename_i hik
        subst hik
        simp only [slotsRising, Bool.and_eq_true]
        exact ⟨hall, hrest⟩
      · rename_i h1 h2
        simp only [slotsRising, Bool.and_eq_true]
        exact ⟨writeSlot_all _ _ _ _ (by simp only [decide_eq_true_eq]; omega) hall, ih hrest⟩

/-- The item narrowed to a slot has `ITEM_W` bits. -/
theorem itemBits_lt (itemW v : Nat) : itemBits itemW v < 2 ^ itemW := Nat.mod_lt _ (Nat.two_pow_pos itemW)

/-- Every state's write of an existing slot keeps the store well formed. -/
theorem State.memWrite_keeps_memoryWf {s t : State} {i v : Nat} (h : s.memWrite i v = .ok t) (hs : s.memoryWf = true) :
    t.memoryWf = true := by
  unfold State.memWrite at h
  split at h
  · rename_i hi
    cases h
    simp only [State.memoryWf, Bool.and_eq_true] at hs ⊢
    refine ⟨writeSlot_rising _ _ _ hs.1, writeSlot_all _ _ _ _ ?_ hs.2⟩
    simp [hi, itemBits_lt]
  · cases h

/-- The reset event leaves an empty store, which is well formed. -/
theorem State.applyReset_memoryWf (s : State) : s.applyReset.memoryWf = true := rfl

/-- The store of an instance just built is well formed. -/
theorem State.built_memoryWf (cfg : Config) : (State.built cfg).memoryWf = true := rfl

end Sys2Proof.Machine
end

