-- ==== Sys2Proof/Laws/Ops.lean ====
section
/-!
SUPPORT. What each shared operation can do, said once: a caller cites these and does not unfold the operation.
-/

namespace Sys2Proof.Machine

variable {s t : State}

/-- The state a WRITE that stores leaves, from the state its policy prepared. -/
def State.stored (s : State) (wdata : Item) : State :=
  { s with
    items := writeSlot s.items s.regs.tailSlot (itemBits s.cfg.itemW wdata)
    regs := s.regs.advanceTail s.cfg.cap
    responses := s.responses ++ [Response.written] }

/-- `storeItem` answers a next state exactly when `tail` names an existing slot, and faults otherwise. -/
theorem storeItem_eq (wdata : Item) (s : State) :
    storeItem wdata s =
      if s.regs.tailSlot < s.cfg.cap then .next (s.stored wdata) else .fault (.slotOutOfRange s.regs.tailSlot) := by
  unfold storeItem State.memWrite
  by_cases h : s.regs.tailSlot < s.cfg.cap
  · simp only [h, if_true]
    rfl
  · simp only [h, if_false]

/-- The state a WRITE that is performed stores from: the policy's part (41_fixed_ring_256.md R104). -/
def State.prepared (s : State) : State :=
  if s.full then
    match s.cfg.overwritePolicy with
    | .unchecked => s.markPV .writeWhileFull
    | .overwriteOldest => s.advanceHead
    | .reject => s
  else s

/-- Everything WRITE can do: decline, or store from the prepared state. -/
theorem writeItem_eq (wdata : Item) (s : State) :
    writeItem wdata s =
      if s.cfg.overwritePolicy = .reject ∧ s.full = true then .next (s.respond Response.declined)
      else storeItem wdata s.prepared := by
  unfold writeItem State.prepared
  cases s.cfg.overwritePolicy <;> cases s.full <;> rfl

/-- The item of a READ that is performed (41_fixed_ring_256.md R105). -/
def State.taken (s : State) : Item :=
  if s.empty then s.drawn else (readSlot s.items s.regs.headSlot).getD s.drawn

/-- The state a READ that is performed advances `head` from. -/
def State.marked (s : State) : State :=
  if s.empty then (s.markPV .readWhileEmpty).afterDraw
  else if readSlot s.items s.regs.headSlot = none then (s.markPV .readUnwritten).afterDraw
  else s

/-- `takeItem` faults only where the buffer is not empty and `head` names no slot. -/
theorem takeItem_eq (s : State) :
    takeItem s =
      if s.empty = true ∨ s.regs.headSlot < s.cfg.cap then .ok (s.taken, s.marked)
      else .error (.slotOutOfRange s.regs.headSlot) := by
  unfold takeItem State.memRead State.taken State.marked
  cases s.empty
  · by_cases hlt : s.regs.headSlot < s.cfg.cap
    · cases h : readSlot s.items s.regs.headSlot <;> simp [hlt]
    · simp [hlt]
  · simp

/-- Everything READ can do: decline, fault on a slot that does not exist, or return the item and advance `head`. -/
theorem readItem_eq (s : State) :
    readItem s =
      if s.cfg.emptyReadPolicy = .reject ∧ s.empty = true then .next (s.respond Response.declined)
      else if s.empty = true ∨ s.regs.headSlot < s.cfg.cap then
        .next (s.marked.advanceHead.respond (Response.item s.taken))
      else .fault (.slotOutOfRange s.regs.headSlot) := by
  unfold readItem
  rw [takeItem_eq]
  by_cases h : s.empty = true ∨ s.regs.headSlot < s.cfg.cap
  · simp only [h, if_true]
  · simp only [h, if_false]

/-- What the two preparations leave alone. -/
theorem State.prepared_frame (s : State) :
    s.prepared.cfg = s.cfg ∧ s.prepared.items = s.items ∧ s.prepared.refusedMark = s.refusedMark ∧
      s.prepared.port = s.port ∧ s.prepared.responses = s.responses ∧ s.prepared.draws = s.draws := by
  unfold State.prepared
  split
  · cases s.cfg.overwritePolicy <;> exact ⟨rfl, rfl, rfl, rfl, rfl, rfl⟩
  · exact ⟨rfl, rfl, rfl, rfl, rfl, rfl⟩

theorem State.marked_frame (s : State) :
    s.marked.cfg = s.cfg ∧ s.marked.regs = s.regs ∧ s.marked.items = s.items ∧
      s.marked.refusedMark = s.refusedMark ∧ s.marked.port = s.port ∧ s.marked.responses = s.responses := by
  unfold State.marked
  split
  · exact ⟨rfl, rfl, rfl, rfl, rfl, rfl⟩
  · split <;> exact ⟨rfl, rfl, rfl, rfl, rfl, rfl⟩

end Sys2Proof.Machine
end

