-- ==== Sys2Proof/Laws/Exec.lean ====
section
/-!
SUPPORT. What an instruction and a step can do, each said once.
-/

namespace Sys2Proof.Machine

variable {s t : State} {i : Instr}

/-- The value a query answers in this state, if the instruction is a query of its variant. -/
def queryValue (i : Instr) (s : State) : Option Count :=
  match i, s.asR256, s.asRN with
  | .r256Isempty, some r, _ => some (boolValue r.empty)
  | .r256Isfull, some r, _ => some (boolValue r.full)
  | .r256Available, some r, _ => some (zext32 r.available)
  | .r256Count, some r, _ => some r.count
  | .rnIsempty, _, some (_, _, r) => some (boolValue r.empty)
  | .rnIsfull, _, some (size, _, r) => some (boolValue (r.full size))
  | .rnAvailable, _, some (size, mode, r) => some (zext32 (r.available size mode))
  | .rnCount, _, some (size, _, r) => some (r.count size)
  | _, _, _ => none

/-- Everything a next state of an instruction can be: a query's answer, WRITE's, or READ's. -/
theorem exec_cases (h : exec i s = .next t) :
    (∃ v, queryValue i s = some v ∧ t = s.answer v) ∨
      (∃ w, (i = .r256Write w ∨ i = .rnWrite w) ∧ writeItem w s = .next t) ∨
      ((i = .r256Read ∨ i = .rnRead) ∧ readItem s = .next t) := by
  cases i <;>
    simp only [exec, execR256Isempty, execR256Isfull, execR256Available, execR256Count, execR256Write, execR256Read,
      execRNIsempty, execRNIsfull, execRNAvailable, execRNCount, execRNWrite, execRNRead] at h <;>
    split at h <;> simp_all [queryValue]

/-- An instruction of the instance's variant is never refused. -/
theorem exec_write_r256 {r : R256Regs} (h : s.IsR256 r) (w : Item) : exec (.r256Write w) s = writeItem w s := by
  simp [exec, execR256Write, State.asR256_eq.mpr h]

theorem exec_read_r256 {r : R256Regs} (h : s.IsR256 r) : exec .r256Read s = readItem s := by
  simp [exec, execR256Read, State.asR256_eq.mpr h]

theorem exec_write_rn {size : Nat} {mode : AvailableNMode} {r : RNRegs} (h : s.IsRN size mode r) (w : Item) :
    exec (.rnWrite w) s = writeItem w s := by
  simp [exec, execRNWrite, State.asRN_eq.mpr h]

theorem exec_read_rn {size : Nat} {mode : AvailableNMode} {r : RNRegs} (h : s.IsRN size mode r) :
    exec .rnRead s = readItem s := by
  simp [exec, execRNRead, State.asRN_eq.mpr h]

/-- Everything a next state of a step can be: the same state, the reset event, or a decoded instruction's. -/
theorem step_cases (h : step s = .next t) :
    (s.port = [] ∧ t = s) ∨
      (∃ rest, s.port = .reset :: rest ∧ t = State.applyReset { s with port := rest }) ∨
      (∃ cmd wdata rest j, s.port = .command cmd wdata :: rest ∧ decode s.cfg cmd wdata = .ok j ∧
        exec j { s with port := rest } = .next t) := by
  cases hwf : s.cfg.wf with
  | false => simp [step, fetch, hwf] at h
  | true =>
    match hp : s.port with
    | [] =>
      have ht : s = t := by simpa [step, fetch, hwf, hp] using h
      exact .inl ⟨rfl, ht.symm⟩
    | .reset :: rest =>
      have ht : State.applyReset { s with port := rest } = t := by simpa [step, fetch, hwf, hp] using h
      exact .inr (.inl ⟨rest, rfl, ht.symm⟩)
    | .command cmd wdata :: rest =>
      cases hd : decode s.cfg cmd wdata with
      | error e => simp [step, fetch, hwf, hp, hd] at h
      | ok j =>
        have ht : exec j { s with port := rest } = .next t := by simpa [step, fetch, hwf, hp, hd] using h
        exact .inr (.inr ⟨cmd, wdata, rest, j, rfl, hd, ht⟩)

end Sys2Proof.Machine
end

