-- ==== Sys2Proof/Laws/Index.lean ====
section
/-!
SUPPORT. The indices as numbers, what an advance leaves alone, and every outcome of WRITE and READ: the lemmas a proof
about a moving index or about WRITE and READ cites.
-/

namespace Sys2Proof.Machine

variable {s t : State} {i : Instr}

/-! ### The views of R256 as numbers -/

theorem R256Regs.h9_toNat (r : R256Regs) : r.h9.toNat = r.genR.toNat * 256 + r.head.toNat := by
  have hlt := r.head.isLt
  simp only [R256Regs.h9, BitVec.toNat_append]
  rw [← Nat.shiftLeft_add_eq_or_of_lt hlt, Nat.shiftLeft_eq]

theorem R256Regs.t9_toNat (r : R256Regs) : r.t9.toNat = r.genW.toNat * 256 + r.tail.toNat := by
  have hlt := r.tail.isLt
  simp only [R256Regs.t9, BitVec.toNat_append]
  rw [← Nat.shiftLeft_add_eq_or_of_lt hlt, Nat.shiftLeft_eq]

/-- The occupancy of R256 in natural numbers (40_index_and_detector.md R91). -/
theorem R256Regs.occ_eq (r : R256Regs) :
    r.occ = (512 + (r.genW.toNat * 256 + r.tail.toNat) - (r.genR.toNat * 256 + r.head.toNat)) % 512 := by
  have h1 := r.tail.isLt
  have h2 := r.head.isLt
  have h3 := r.genW.isLt
  have h4 := r.genR.isLt
  simp only [R256Regs.occ, BitVec.toNat_sub, R256Regs.t9_toNat, R256Regs.h9_toNat]
  omega

theorem flipBit_toNat (g : Bit) : (g ^^^ 1#1).toNat = 1 - g.toNat := by
  revert g
  decide

/-! ### The indices of RN as numbers -/

/-- The slot before slot `h`, modulo `size`. -/
theorem pred_mod {size h : Nat} (hs : 1 ≤ size) (hh : h < size) :
    (h + size - 1) % size = if h = 0 then size - 1 else h - 1 := by
  split
  · subst_vars
    rw [Nat.zero_add]
    exact Nat.mod_eq_of_lt (by omega)
  · have he : h + size - 1 = h - 1 + size := by omega
    rw [he, Nat.add_mod_right]
    exact Nat.mod_eq_of_lt (by omega)

/-- The slot after slot `h`, modulo `size`. -/
theorem succ_mod {size h : Nat} (hh : h < size) : (h + 1) % size = if h + 1 = size then 0 else h + 1 := by
  split
  · subst_vars
    exact Nat.mod_self _
  · exact Nat.mod_eq_of_lt (by omega)

/-- The occupancy of RN in natural numbers (40_index_and_detector.md R92). -/
theorem RNRegs.occ_eq {size : Nat} {r : RNRegs} (hh : r.head.toNat < size) (ht : r.tail.toNat < size) :
    r.occ size = if r.head.toNat ≤ r.tail.toNat then r.tail.toNat - r.head.toNat
      else r.tail.toNat + size - r.head.toNat := by
  unfold RNRegs.occ
  split
  · rw [Int.emod_eq_of_lt (by omega) (by omega)]
    omega
  · rw [← Int.add_emod_right, Int.emod_eq_of_lt (by omega) (by omega)]
    omega

/-! ### What an advance leaves alone -/

@[simp] theorem Regs.advanceHead_tailSlot (cap : Nat) (g : Regs) : (g.advanceHead cap).tailSlot = g.tailSlot := by
  cases g <;> rfl

@[simp] theorem Regs.advanceTail_headSlot (cap : Nat) (g : Regs) : (g.advanceTail cap).headSlot = g.headSlot := by
  cases g <;> rfl

@[simp] theorem Regs.advanceTail_wrapR (cap : Nat) (g : Regs) : (g.advanceTail cap).wrapR = g.wrapR := by
  cases g <;> rfl

@[simp] theorem Regs.advanceHead_ofVariant (cap : Nat) (g : Regs) (v : Variant) :
    (g.advanceHead cap).ofVariant v = g.ofVariant v := by
  cases g <;> cases v <;> rfl

@[simp] theorem Regs.advanceTail_ofVariant (cap : Nat) (g : Regs) (v : Variant) :
    (g.advanceTail cap).ofVariant v = g.ofVariant v := by
  cases g <;> cases v <;> rfl

/-- No policy moves `tail` before the item is stored. -/
@[simp] theorem State.prepared_tailSlot (s : State) : s.prepared.regs.tailSlot = s.regs.tailSlot := by
  unfold State.prepared
  split
  · cases s.cfg.overwritePolicy <;> simp
  · rfl

/-! ### Every outcome of WRITE and READ -/

/-- A next state of WRITE is the state with a declined response, or the prepared state with the item stored. -/
theorem writeItem_cases {w : Item} (h : writeItem w s = .next t) :
    (s.cfg.overwritePolicy = .reject ∧ s.full = true ∧ t = s.respond Response.declined) ∨
      (¬(s.cfg.overwritePolicy = .reject ∧ s.full = true) ∧ s.regs.tailSlot < s.cfg.cap ∧ t = s.prepared.stored w) := by
  rw [writeItem_eq] at h
  split at h
  · rename_i hd
    cases h
    exact .inl ⟨hd.1, hd.2, rfl⟩
  · rename_i hd
    rw [storeItem_eq, State.prepared_tailSlot, (State.prepared_frame s).1] at h
    split at h
    · cases h
      exact .inr ⟨hd, ‹_›, rfl⟩
    · cases h

/-- A next state of READ is the state with a declined response, or the marked state with `head` advanced. -/
theorem readItem_cases (h : readItem s = .next t) :
    (s.cfg.emptyReadPolicy = .reject ∧ s.empty = true ∧ t = s.respond Response.declined) ∨
      (¬(s.cfg.emptyReadPolicy = .reject ∧ s.empty = true) ∧ (s.empty = true ∨ s.regs.headSlot < s.cfg.cap) ∧
        t = s.marked.advanceHead.respond (Response.item s.taken)) := by
  rw [readItem_eq] at h
  split at h
  · rename_i hd
    cases h
    exact .inl ⟨hd.1, hd.2, rfl⟩
  · rename_i hd
    split at h
    · cases h
      exact .inr ⟨hd, ‹_›, rfl⟩
    · cases h

/-- The three states a WRITE that is not declined stores from. -/
theorem State.prepared_cases (hn : ¬(s.cfg.overwritePolicy = .reject ∧ s.full = true)) :
    (s.full = true ∧ s.cfg.overwritePolicy = .unchecked ∧ s.prepared = s.markPV .writeWhileFull) ∨
      (s.full = true ∧ s.cfg.overwritePolicy = .overwriteOldest ∧ s.prepared = s.advanceHead) ∨
      (s.full = false ∧ s.prepared = s) := by
  unfold State.prepared
  cases hf : s.full
  · simp
  · cases hp : s.cfg.overwritePolicy <;> simp_all

/-- A next state of either WRITE instruction is one of `writeItem`. -/
theorem exec_isWrite (hi : i.isWrite = true) (h : exec i s = .next t) : writeItem (encodeWdata i) s = .next t := by
  rcases exec_cases h with ⟨v, hv, ht⟩ | ⟨w, hw, hx⟩ | ⟨hr, _⟩
  · cases i <;> simp_all [Instr.isWrite, queryValue]
  · rcases hw with rfl | rfl <;> exact hx
  · rcases hr with rfl | rfl <;> simp [Instr.isWrite] at hi

/-- A next state of either READ instruction is one of `readItem`. -/
theorem exec_isRead (hi : i.isRead = true) (h : exec i s = .next t) : readItem s = .next t := by
  rcases exec_cases h with ⟨v, hv, ht⟩ | ⟨w, hw, hx⟩ | ⟨hr, hx⟩
  · cases i <;> simp_all [Instr.isRead, queryValue]
  · rcases hw with rfl | rfl <;> simp [Instr.isRead] at hi
  · exact hx

/-! ### What the invariant gives -/

/-- The number of slots of an instance. -/
theorem State.Inv.cap_bounds (h : s.Inv) : 1 ≤ s.cfg.cap ∧ s.cfg.cap ≤ 32768 := by
  have hwf := h.cfgWf
  simp only [Config.wf, Bool.and_eq_true, decide_eq_true_eq] at hwf
  unfold Config.cap
  cases hv : s.cfg.variant <;> simp_all [Variant.sizeAdmitted]

/-- An instance is an R256 instance or an RN instance. -/
theorem State.Inv.regs_cases (h : s.Inv) : (∃ r, s.IsR256 r) ∨ (∃ size mode r, s.IsRN size mode r) := by
  have hr := h.variant
  cases hv : s.cfg.variant <;> cases hg : s.regs <;> simp_all [Regs.ofVariant]
  · exact .inl ⟨_, hv, hg⟩
  · exact .inr ⟨_, _, _, hv, hg⟩

end Sys2Proof.Machine
end

