-- ==== Sys2Proof/Laws/PerInstr.lean ====
section
/-!
SUPPORT. Laws stated per instruction. CommandWord: the form of an instruction's command word (30_encoding.md R61).
-/

namespace Sys2Proof.Laws

/-- `RSV = CMD[7:3]` is zero, `OP` is no reserved code, and `OP[2]` is 1 exactly for the operations that change state
(30_encoding.md R61, R62). -/
def CommandWord.Statement (i : Instr) : Prop :=
  cmdRsv (encodeCmd i) = 0#5 ∧ (cmdOp (encodeCmd i)).toNat < 6 ∧ (cmdOp (encodeCmd i)).getLsbD 2 = i.changesState

theorem CommandWord.r256Isempty : CommandWord.Statement .r256Isempty :=
  ⟨rfl, by decide, rfl⟩

theorem CommandWord.r256Isfull : CommandWord.Statement .r256Isfull :=
  ⟨rfl, by decide, rfl⟩

theorem CommandWord.r256Available : CommandWord.Statement .r256Available :=
  ⟨rfl, by decide, rfl⟩

theorem CommandWord.r256Count : CommandWord.Statement .r256Count :=
  ⟨rfl, by decide, rfl⟩

theorem CommandWord.r256Write (wdata : Item) : CommandWord.Statement (.r256Write wdata) :=
  ⟨(by decide : cmdRsv 0x04#8 = 0#5), (by decide : (cmdOp 0x04#8).toNat < 6), (by decide : (cmdOp 0x04#8).getLsbD 2 = true)⟩

theorem CommandWord.r256Read : CommandWord.Statement .r256Read :=
  ⟨rfl, by decide, rfl⟩

theorem CommandWord.rnIsempty : CommandWord.Statement .rnIsempty :=
  ⟨rfl, by decide, rfl⟩

theorem CommandWord.rnIsfull : CommandWord.Statement .rnIsfull :=
  ⟨rfl, by decide, rfl⟩

theorem CommandWord.rnAvailable : CommandWord.Statement .rnAvailable :=
  ⟨rfl, by decide, rfl⟩

theorem CommandWord.rnCount : CommandWord.Statement .rnCount :=
  ⟨rfl, by decide, rfl⟩

theorem CommandWord.rnWrite (wdata : Item) : CommandWord.Statement (.rnWrite wdata) :=
  ⟨(by decide : cmdRsv 0x04#8 = 0#5), (by decide : (cmdOp 0x04#8).toNat < 6), (by decide : (cmdOp 0x04#8).getLsbD 2 = true)⟩

theorem CommandWord.rnRead : CommandWord.Statement .rnRead :=
  ⟨rfl, by decide, rfl⟩

end Sys2Proof.Laws
end

