-- ==== Sys2Proof/Tests/Slice0.lean ====
section
/-!
SUPPORT. Tests of the model against the worked examples and vectors of spec/95_test_vectors.md (named in each comment), words
written out bit by bit from 30_encoding.md, terms that the checks refuse, and for each obligation with hypotheses a state that
meets them.
-/

namespace Sys2Proof.Tests

open Sys2Proof.Machine

/-! ### The instances tested: `ITEM_W = 8` -/

/-- A configuration of R256. -/
def cfg256 (o : OverwritePolicy) (e : EmptyReadPolicy) : Config := ⟨.r256, 8, 32, o, e⟩

/-- A configuration of RN. -/
def cfgN (size : Nat) (mode : AvailableNMode) (o : OverwritePolicy) (e : EmptyReadPolicy) : Config :=
  ⟨.rn size mode, 8, 32, o, e⟩

/-- An instance just built, put into a state. -/
def inst (cfg : Config) (regs : Regs) (items : Slots) : State := { State.built cfg with regs := regs, items := items }

/-- R256 in state `(head, tail, genR, genW, wrapR)`, `OVERWRITE_POLICY` as given, `EMPTY_READ_POLICY = UNCHECKED`. -/
def s256 (o : OverwritePolicy) (r : R256Regs) (items : Slots) : State := inst (cfg256 o .unchecked) (.r256 r) items

/-- RN in state `(head, tail, wrapR)`, `OVERWRITE_POLICY` as given, `EMPTY_READ_POLICY = UNCHECKED`. -/
def sN (size : Nat) (mode : AvailableNMode) (o : OverwritePolicy) (r : RNRegs) (items : Slots) : State :=
  inst (cfgN size mode o .unchecked) (.rn r) items

/-- R256 whose policies are both `REJECT`. -/
def rej256 (r : R256Regs) (items : Slots) : State := inst (cfg256 .reject .reject) (.r256 r) items

/-- RN whose policies are both `REJECT`. -/
def rejN (size : Nat) (r : RNRegs) (items : Slots) : State := inst (cfgN size .corrected .reject .reject) (.rn r) items

/-- `VALUE` of the response. -/
def valueAfter (i : Instr) (s : State) : Option Count :=
  ((nextOf (exec i s)).bind State.lastResponse).map Response.value

/-- The registers, the store and the PV reasons after. -/
def hardwareAfter (i : Instr) (s : State) : Option (Regs × Slots × PVMarks) :=
  (nextOf (exec i s)).map (fun t => (t.regs, t.items, t.pv))

/-- The response. -/
def responseAfter (i : Instr) (s : State) : Option Response := (nextOf (exec i s)).bind State.lastResponse

/-! ### Ill-formed terms are refused -/

theorem test_wf_item_too_wide : (Instr.r256Write 256).wf Config.default = false := by decide
theorem test_wf_item_widest : (Instr.r256Write 255).wf Config.default = true := by decide
theorem test_wf_item_too_wide_rn : (Instr.rnWrite 256).wf (cfgN 8 .corrected .reject .reject) = false := by decide
theorem test_wf_rn_row_in_r256 : Instr.rnRead.wf Config.default = false := by decide
theorem test_wf_r256_row_in_rn : Instr.r256Read.wf (cfgN 8 .corrected .reject .reject) = false := by decide
theorem test_wf_size_zero : (cfgN 0 .corrected .reject .reject).wf = false := by decide
theorem test_wf_size_too_large : (cfgN 32769 .corrected .reject .reject).wf = false := by decide
theorem test_wf_size_limits : (cfgN 1 .corrected .reject .reject).wf = true ∧
    (cfgN 32768 .corrected .reject .reject).wf = true := by decide
theorem test_wf_item_width_zero : ({ Config.default with itemW := 0 } : Config).wf = false := by decide
theorem test_wf_count_width : ({ Config.default with cntW := 16 } : Config).wf = false := by decide

/-! ### Decoding: words written out from 30_encoding.md, `RSV` then `OP` (E1 to E11 of 95_test_vectors.md) -/

/-- An RN configuration, for decoding. -/
def rnCfg : Config := cfgN 8 .bugCompatible .unchecked .unchecked

theorem test_decode_r256_isempty : decode Config.default (0b00000#5 ++ 0b000#3) 0 = .ok .r256Isempty := rfl
theorem test_decode_r256_isfull : decode Config.default (0b00000#5 ++ 0b001#3) 0 = .ok .r256Isfull := rfl
theorem test_decode_r256_available : decode Config.default (0b00000#5 ++ 0b010#3) 0 = .ok .r256Available := rfl
theorem test_decode_r256_count : decode Config.default (0b00000#5 ++ 0b011#3) 0 = .ok .r256Count := rfl
theorem test_decode_r256_write : decode Config.default (0b00000#5 ++ 0b100#3) 0xA5 = .ok (.r256Write 0xA5) := rfl
theorem test_decode_r256_read : decode Config.default (0b00000#5 ++ 0b101#3) 0x55 = .ok .r256Read := rfl
theorem test_decode_rn_isempty : decode rnCfg (0b00000#5 ++ 0b000#3) 0 = .ok .rnIsempty := rfl
theorem test_decode_rn_isfull : decode rnCfg (0b00000#5 ++ 0b001#3) 0 = .ok .rnIsfull := rfl
theorem test_decode_rn_available : decode rnCfg (0b00000#5 ++ 0b010#3) 0 = .ok .rnAvailable := rfl
theorem test_decode_rn_count : decode rnCfg (0b00000#5 ++ 0b011#3) 0 = .ok .rnCount := rfl
theorem test_decode_rn_write : decode rnCfg (0b00000#5 ++ 0b100#3) 0xA5 = .ok (.rnWrite 0xA5) := rfl
theorem test_decode_rn_read : decode rnCfg (0b00000#5 ++ 0b101#3) 0x55 = .ok .rnRead := rfl
/-- E7. -/
theorem test_decode_reserved_op : decode Config.default 0x06#8 0 = .error .reservedOp ∧
    decode rnCfg 0x07#8 0 = .error .reservedOp := ⟨rfl, rfl⟩
/-- E8, E9, E10. -/
theorem test_decode_reserved_bits : decode Config.default 0x08#8 0 = .error .reservedBits ∧
    decode rnCfg 0x84#8 0x11 = .error .reservedBits ∧ decode Config.default 0xFF#8 0 = .error .reservedBits :=
  ⟨rfl, rfl, rfl⟩
/-- The host's table words (spec/opcode_table.json), in the instance of `State.reset`. -/
theorem test_table_words : decodeTableWord 8 0x02 = some .r256Available ∧ decodeTableWord 8 0x05 = some .r256Read ∧
    decodeTableWord 8 0x07 = none := ⟨rfl, rfl, rfl⟩
theorem test_fetch_word_runs : step (State.reset.withFetchWord 8 0x03) = exec .r256Count State.reset := rfl

/-! ### modular_index_wraparound (I3, I5, I7, I11, I12, I13) -/

theorem test_adv256_wraps : adv256 255#8 = (0#8, true) ∧ adv256 254#8 = (255#8, false) := by decide
theorem test_advanceHead256_wrap_counter_overflows :
    R256Regs.advanceHead ⟨255#8, 9#8, 1#1, 0#1, 0xFFFFFFFF#32⟩ = ⟨0#8, 9#8, 0#1, 0#1, 0#32⟩ := by decide
theorem test_advanceTail256_wraps : R256Regs.advanceTail ⟨7#8, 255#8, 0#1, 1#1, 5#32⟩ = ⟨7#8, 0#8, 0#1, 0#1, 5#32⟩ := by
  decide
theorem test_advN_limits : advN 32768 32767#16 = (0#16, true) ∧ advN 1 0#16 = (0#16, true) ∧ advN 10 8#16 = (9#16, false) := by
  decide
theorem test_advanceHeadN_wraps : RNRegs.advanceHead 10 ⟨9#16, 4#16, 2#32⟩ = ⟨0#16, 4#16, 3#32⟩ := by decide

/-! ### fifo_full_empty_detector (F4, F6, F9, F11, F13) -/

theorem test_full256 : R256Regs.full ⟨7#8, 7#8, 1#1, 0#1, 0#32⟩ = true ∧ R256Regs.empty ⟨7#8, 7#8, 1#1, 0#1, 0#32⟩ = false ∧
    R256Regs.full ⟨7#8, 8#8, 0#1, 1#1, 0#32⟩ = false ∧ R256Regs.empty ⟨7#8, 8#8, 0#1, 1#1, 0#32⟩ = false := by decide
theorem test_fullN : RNRegs.full 10 ⟨5#16, 4#16, 0#32⟩ = true ∧ RNRegs.full 10 ⟨5#16, 3#16, 0#32⟩ = false ∧
    RNRegs.full 2 ⟨1#16, 0#16, 0#32⟩ = true ∧ RNRegs.full 1 ⟨0#16, 0#16, 0#32⟩ = true := by decide

/-! ### R256 -/

/-- Q1. -/
theorem test_r256_isempty_reset : valueAfter .r256Isempty State.reset = some 1#32 := by decide
/-- Q2. -/
theorem test_r256_isempty_full : valueAfter .r256Isempty (s256 .unchecked ⟨0#8, 0#8, 0#1, 1#1, 0#32⟩ []) = some 0#32 := by
  decide
/-- Q3. -/
theorem test_r256_isfull_full : valueAfter .r256Isfull (s256 .unchecked ⟨0#8, 0#8, 0#1, 1#1, 0#32⟩ []) = some 1#32 := by
  decide
/-- Q7. -/
theorem test_r256_isfull_255 : valueAfter .r256Isfull (s256 .unchecked ⟨0#8, 255#8, 0#1, 0#1, 0#32⟩ []) = some 0#32 := by
  decide
/-- Q4. -/
theorem test_r256_available_wraps :
    valueAfter .r256Available (s256 .unchecked ⟨250#8, 4#8, 0#1, 1#1, 0#32⟩ []) = some 10#32 := by decide
/-- Q5. -/
theorem test_r256_available_full :
    valueAfter .r256Available (s256 .unchecked ⟨9#8, 9#8, 0#1, 1#1, 0#32⟩ []) = some 255#32 := by decide
/-- Q11. -/
theorem test_r256_count_top :
    valueAfter .r256Count (s256 .unchecked ⟨255#8, 255#8, 1#1, 1#1, 0x00FFFFFF#32⟩ []) = some 0xFFFFFFFF#32 := by decide
/-- Q12. -/
theorem test_r256_count_loses_high_bits :
    valueAfter .r256Count (s256 .unchecked ⟨3#8, 3#8, 0#1, 0#1, 0x01000000#32⟩ []) = some 3#32 := by decide
/-- W4. -/
theorem test_r256_write_full_unchecked :
    hardwareAfter (.r256Write 0x77) (s256 .unchecked ⟨255#8, 255#8, 0#1, 1#1, 0#32⟩ []) =
      some (.r256 ⟨255#8, 0#8, 0#1, 0#1, 0#32⟩, [(255, 0x77)], ⟨true, false, false⟩) := by decide
/-- W6. -/
theorem test_r256_write_full_overwrite :
    hardwareAfter (.r256Write 0x77) (s256 .overwriteOldest ⟨255#8, 255#8, 0#1, 1#1, 0#32⟩ [(255, 1)]) =
      some (.r256 ⟨0#8, 0#8, 1#1, 0#1, 1#32⟩, [(255, 0x77)], PVMarks.none) := by decide
/-- R2. -/
theorem test_r256_read_wraps :
    hardwareAfter .r256Read (s256 .unchecked ⟨255#8, 0#8, 0#1, 1#1, 0#32⟩ [(255, 0xEE)]) =
      some (.r256 ⟨0#8, 0#8, 1#1, 1#1, 1#32⟩, [(255, 0xEE)], PVMarks.none) ∧
    responseAfter .r256Read (s256 .unchecked ⟨255#8, 0#8, 0#1, 1#1, 0#32⟩ [(255, 0xEE)]) = some ⟨1#1, 0xEE, 0#32⟩ := by
  decide
/-- R6: the item returned is a free value, so it is not tested. -/
theorem test_r256_read_empty :
    hardwareAfter .r256Read (s256 .unchecked ⟨255#8, 255#8, 1#1, 1#1, 1#32⟩ []) =
      some (.r256 ⟨0#8, 255#8, 0#1, 1#1, 2#32⟩, [], ⟨false, true, false⟩) := by decide

/-! ### RN -/

/-- N1. -/
theorem test_rn_isempty_reset :
    valueAfter .rnIsempty (sN 8 .bugCompatible .unchecked ⟨0#16, 0#16, 0#32⟩ []) = some 1#32 := by decide
/-- S6. -/
theorem test_rn_isempty_nine_items :
    valueAfter .rnIsempty (sN 10 .bugCompatible .unchecked ⟨0#16, 9#16, 0#32⟩ []) = some 0#32 := by decide
/-- N3. -/
theorem test_rn_isfull : valueAfter .rnIsfull (sN 8 .bugCompatible .unchecked ⟨3#16, 2#16, 0#32⟩ []) = some 1#32 := by decide
/-- N4. -/
theorem test_rn_isfull_when_empty :
    valueAfter .rnIsfull (sN 8 .bugCompatible .unchecked ⟨3#16, 3#16, 0#32⟩ []) = some 0#32 := by decide
/-- N6, S7. -/
theorem test_rn_available_defect :
    valueAfter .rnAvailable (sN 8 .bugCompatible .unchecked ⟨6#16, 2#16, 0#32⟩ []) = some 65532#32 := by decide
/-- N12. -/
theorem test_rn_available_corrected :
    valueAfter .rnAvailable (sN 32768 .corrected .unchecked ⟨32767#16, 0#16, 0#32⟩ []) = some 1#32 := by decide
/-- N13. -/
theorem test_rn_count : valueAfter .rnCount (sN 10 .bugCompatible .unchecked ⟨4#16, 4#16, 3#32⟩ []) = some 34#32 := by decide
/-- N14. -/
theorem test_rn_count_loses_product :
    valueAfter .rnCount (sN 32768 .bugCompatible .unchecked ⟨5#16, 5#16, 131072#32⟩ []) = some 5#32 := by decide
/-- M4. -/
theorem test_rn_write_full_unchecked :
    hardwareAfter (.rnWrite 0x5A) (sN 8 .bugCompatible .unchecked ⟨0#16, 7#16, 0#32⟩ []) =
      some (.rn ⟨0#16, 0#16, 0#32⟩, [(7, 0x5A)], ⟨true, false, false⟩) := by decide
/-- M6. -/
theorem test_rn_write_full_overwrite :
    hardwareAfter (.rnWrite 0x5A) (sN 8 .bugCompatible .overwriteOldest ⟨7#16, 6#16, 0#32⟩ [(5, 1), (7, 2)]) =
      some (.rn ⟨0#16, 7#16, 1#32⟩, [(5, 1), (6, 0x5A), (7, 2)], PVMarks.none) := by decide
/-- M8. -/
theorem test_rn_read_wraps :
    hardwareAfter .rnRead (sN 8 .bugCompatible .unchecked ⟨7#16, 2#16, 0#32⟩ [(7, 0x31)]) =
      some (.rn ⟨0#16, 2#16, 1#32⟩, [(7, 0x31)], PVMarks.none) ∧
    responseAfter .rnRead (sN 8 .bugCompatible .unchecked ⟨7#16, 2#16, 0#32⟩ [(7, 0x31)]) = some ⟨1#1, 0x31, 0#32⟩ := by decide
/-- M10: the item returned is a free value, so it is not tested. -/
theorem test_rn_read_empty :
    hardwareAfter .rnRead (sN 8 .bugCompatible .unchecked ⟨7#16, 7#16, 0#32⟩ []) =
      some (.rn ⟨0#16, 7#16, 1#32⟩, [], ⟨false, true, false⟩) := by decide

/-! ### The assembler (30_encoding.md R68; the lines of P1) and refusals (P5) -/

theorem test_asm_write_hex : assembleLine Config.default "WRITE 0x11 ; first".toList = .ok (some (0x04#8, 0x11)) := rfl
theorem test_asm_write_binary : assembleLine Config.default "WRITE 0b101".toList = .ok (some (0x04#8, 5)) := rfl
theorem test_asm_available : assembleLine Config.default "AVAILABLE".toList = .ok (some (0x02#8, 0)) := rfl
theorem test_asm_item_too_wide : assembleLine Config.default "WRITE 256".toList = .error .itemTooWide := rfl
theorem test_asm_lower_case : assembleLine Config.default "read".toList = .error .unknownMnemonic := rfl
theorem test_asm_comment_only : assembleLine Config.default "; nothing".toList = .ok none := rfl
/-- P5, step 2. -/
theorem test_refusal_sets_the_mark :
    advance ((s256 .unchecked ⟨0#8, 1#8, 0#1, 0#1, 0#32⟩ [(0, 0x5A)]).present 0x06#8 0) =
      { s256 .unchecked ⟨0#8, 1#8, 0#1, 0#1, 0#32⟩ [(0, 0x5A)] with refusedMark := true } := rfl

/-! ### Witnesses: for each obligation with hypotheses, a state and operands that meet them together, clause by clause -/

/-- R256 full with both indices at the last slot. -/
def full256 (o : OverwritePolicy) : State := s256 o ⟨255#8, 255#8, 0#1, 1#1, 0#32⟩ [(255, 7)]

/-- R256 empty with both indices at the last slot. -/
def empty256 : State := s256 .unchecked ⟨255#8, 255#8, 1#1, 1#1, 1#32⟩ []

/-- R256 with one item, in the last slot. -/
def one256 : State := s256 .unchecked ⟨255#8, 0#8, 0#1, 1#1, 0#32⟩ [(255, 0xEE)]

/-- RN of 8 slots, full, `head` in the last slot. -/
def fullN (o : OverwritePolicy) : State := sN 8 .bugCompatible o ⟨7#16, 6#16, 0#32⟩ [(7, 9)]

/-- RN of 8 slots, empty, both indices in the last slot. -/
def emptyN (mode : AvailableNMode) : State := sN 8 mode .unchecked ⟨7#16, 7#16, 0#32⟩ []

/-- RN of 8 slots with one item, in the last slot. -/
def oneN : State := sN 8 .corrected .unchecked ⟨7#16, 0#16, 0#32⟩ [(7, 0x31)]

theorem full256_inv (o : OverwritePolicy) : (full256 o).Inv :=
  ⟨rfl, rfl, (by decide : 255 < 256), (by decide : 255 < 256), rfl⟩
theorem empty256_inv : empty256.Inv := ⟨rfl, rfl, by decide, by decide, rfl⟩
theorem one256_inv : one256.Inv := ⟨rfl, rfl, by decide, by decide, rfl⟩
theorem fullN_inv (o : OverwritePolicy) : (fullN o).Inv :=
  ⟨rfl, rfl, (by decide : 7 < 8), (by decide : 6 < 8), rfl⟩
theorem emptyN_inv (mode : AvailableNMode) : (emptyN mode).Inv :=
  ⟨rfl, rfl, (by decide : 7 < 8), (by decide : 7 < 8), rfl⟩
theorem oneN_inv : oneN.Inv := ⟨rfl, rfl, by decide, by decide, rfl⟩

theorem one256_sound : one256.QueueSound := ⟨by decide, by decide⟩
theorem oneN_sound : oneN.QueueSound := ⟨by decide, by decide⟩

theorem test_witness_LegalWordsSelectTheirRow :
    Config.default.variant = .r256 ∧ rnCfg.variant = .rn 8 .bugCompatible := ⟨rfl, rfl⟩

theorem test_witness_ReservedWordRefused :
    (State.reset.present 0x06#8 0).cfg.wf = true ∧
      (State.reset.present 0x06#8 0).port = .command 0x06#8 0 :: [] ∧ 5 < (0x06#8).toNat := ⟨rfl, rfl, by decide⟩

theorem test_witness_DecodeOfEncodeIsIdentity :
    (Instr.r256Write 255).wf Config.default = true ∧ (Instr.rnWrite 255).wf rnCfg = true ∧ Instr.rnRead.wf rnCfg = true := by
  decide

theorem test_witness_DecodedInstrIsOfInstance :
    decode Config.default 0x04#8 0x1FF = .ok (.r256Write 0xFF) ∧ (Instr.r256Write 0xFF).isWrite = true := ⟨rfl, rfl⟩

theorem test_witness_WdataReadByWriteOnly :
    (0x05#8 : Cmd) ≠ 0x04#8 ∧ (∃ t, step (State.reset.present 0x04#8 0xA5) = .next t) ∧
      State.reset.tailMoves (.r256Write 0xA5) = true := ⟨by decide, ⟨_, rfl⟩, rfl⟩

theorem test_witness_AssembledLineDecodes :
    assembleLine Config.default "WRITE 255".toList = .ok (some (0x04#8, 255)) := rfl

theorem test_witness_StepRunsDecodedInstruction :
    (State.reset.present 0x05#8 0).cfg.wf = true ∧ (State.reset.present 0x05#8 0).port = .command 0x05#8 0 :: [] ∧
      decode Config.default 0x05#8 0 = .ok .r256Read := ⟨rfl, rfl, rfl⟩

theorem test_witness_StepWithoutEventKeepsState : State.reset.cfg.wf = true ∧ State.reset.port = [] := ⟨rfl, rfl⟩

theorem test_witness_BuiltInstanceIsZeroed :
    (cfgN 32768 .corrected .reject .reject).wf = true ∧ Config.default.wf = true ∧
      ({ empty256 with port := [.reset] } : State).cfg = Config.default ∧
      ({ empty256 with port := [.reset] } : State).port = .reset :: [] := ⟨rfl, rfl, rfl, rfl⟩

theorem test_witness_HostResetZeroesRegistersAndSlots :
    (∃ s : State, s.cfg.wf = true ∧ s.port = .reset :: [] ∧ s.cfg.variant = .r256) ∧
      (∃ s : State, s.cfg.wf = true ∧ s.port = .reset :: [] ∧ s.cfg.variant = .rn 8 .corrected) :=
  ⟨⟨{ one256 with port := [.reset] }, rfl, rfl, rfl⟩, ⟨{ oneN with port := [.reset] }, rfl, rfl, rfl⟩⟩

theorem test_witness_BadConfigurationRefused :
    build (cfgN 0 .corrected .reject .reject) = .refused .badConfiguration ∧
      build (cfgN 32769 .corrected .reject .reject) = .refused .badConfiguration ∧
      (∃ s, build (cfgN 1 .corrected .reject .reject) = .next s) := ⟨rfl, rfl, ⟨_, rfl⟩⟩

theorem test_witness_ImpossibleInstanceRefused :
    Instr.rnRead.ofVariant State.reset.cfg.variant = false ∧
      build (sN 0 .corrected .reject ⟨0#16, 0#16, 0#32⟩ []).cfg = .refused .badConfiguration := ⟨rfl, rfl⟩

theorem test_witness_SlotOutsideStoreFaults :
    (∃ s r, State.IsRN s 8 .corrected r ∧ 8 ≤ r.tail.toNat ∧ s.tailMoves (.rnWrite 1) = true) ∧
      (∃ s r, State.IsRN s 8 .corrected r ∧ 8 ≤ r.head.toNat ∧ r.head ≠ r.tail) :=
  ⟨⟨sN 8 .corrected .unchecked ⟨0#16, 8#16, 0#32⟩ [], ⟨0#16, 8#16, 0#32⟩, ⟨rfl, rfl⟩, by decide, rfl⟩,
    ⟨sN 8 .corrected .unchecked ⟨8#16, 0#16, 0#32⟩ [], ⟨8#16, 0#16, 0#32⟩, ⟨rfl, rfl⟩, by decide, by decide⟩⟩

theorem test_witness_R256IsemptyResult : empty256.IsR256 ⟨255#8, 255#8, 1#1, 1#1, 1#32⟩ := ⟨rfl, rfl⟩

theorem test_witness_R256IsfullResult : (full256 .unchecked).IsR256 ⟨255#8, 255#8, 0#1, 1#1, 0#32⟩ := ⟨rfl, rfl⟩

theorem test_witness_R256AvailableResult : one256.IsR256 ⟨255#8, 0#8, 0#1, 1#1, 0#32⟩ := ⟨rfl, rfl⟩

theorem test_witness_R256CountResult : empty256.IsR256 ⟨255#8, 255#8, 1#1, 1#1, 1#32⟩ := ⟨rfl, rfl⟩

theorem test_witness_RNIsemptyResult : (emptyN .corrected).IsRN 8 .corrected ⟨7#16, 7#16, 0#32⟩ := ⟨rfl, rfl⟩

theorem test_witness_RNIsfullResult : (fullN .unchecked).IsRN 8 .bugCompatible ⟨7#16, 6#16, 0#32⟩ ∧ 1 ≤ 8 :=
  ⟨⟨rfl, rfl⟩, by decide⟩

theorem test_witness_RNAvailableResult :
    (∃ s r, State.IsRN s 32768 .corrected r) ∧ (∃ s r, State.IsRN s 1 .bugCompatible r) ∧ 1 ≤ 32768 ∧ 32768 ≤ 32768 :=
  ⟨⟨sN 32768 .corrected .unchecked ⟨32767#16, 0#16, 0#32⟩ [], _, rfl, rfl⟩,
    ⟨sN 1 .bugCompatible .unchecked ⟨0#16, 0#16, 0#32⟩ [], _, rfl, rfl⟩, by decide, by decide⟩

theorem test_witness_RNCountResult : (emptyN .corrected).IsRN 8 .corrected ⟨7#16, 7#16, 0#32⟩ := ⟨rfl, rfl⟩

theorem test_witness_QueriesChangeNoState :
    Instr.r256Count.changesState = false ∧ (∃ t, exec .r256Count one256 = .next t) ∧
      Instr.rnAvailable.changesState = false ∧ (∃ t, exec .rnAvailable oneN = .next t) := ⟨rfl, ⟨_, rfl⟩, rfl, ⟨_, rfl⟩⟩

/-- The clauses of WRITE of R256: unchecked and full, not full, `OVERWRITE_OLDEST` and full, `REJECT` and full; `tail` in the
last slot. -/
theorem test_witness_R256WriteResult :
    ((full256 .unchecked).IsR256 ⟨255#8, 255#8, 0#1, 1#1, 0#32⟩ ∧ (full256 .unchecked).cfg.overwritePolicy = .unchecked) ∧
      (∃ s : State, s.IsR256 ⟨0#8, 255#8, 0#1, 0#1, 0#32⟩ ∧ s.cfg.overwritePolicy = .reject) ∧
      ((full256 .overwriteOldest).cfg.overwritePolicy = .overwriteOldest ∧ (0#1 : Bit) ≠ 1#1) ∧
      ((full256 .reject).cfg.overwritePolicy = .reject ∧ (full256 .reject).IsR256 ⟨255#8, 255#8, 0#1, 1#1, 0#32⟩) :=
  ⟨⟨⟨rfl, rfl⟩, rfl⟩, ⟨s256 .reject ⟨0#8, 255#8, 0#1, 0#1, 0#32⟩ [], ⟨rfl, rfl⟩, rfl⟩, ⟨rfl, by decide⟩, ⟨rfl, rfl, rfl⟩⟩

/-- The clauses of READ of R256: rejected, empty, a slot with a value, a slot with none; `head` in the last slot. -/
theorem test_witness_R256ReadResult :
    (∃ s : State, s.IsR256 ⟨255#8, 255#8, 1#1, 1#1, 1#32⟩ ∧ s.cfg.emptyReadPolicy = .reject) ∧
      (empty256.IsR256 ⟨255#8, 255#8, 1#1, 1#1, 1#32⟩ ∧ empty256.cfg.emptyReadPolicy = .unchecked) ∧
      (one256.IsR256 ⟨255#8, 0#8, 0#1, 1#1, 0#32⟩ ∧ readSlot one256.items 255 = some 0xEE) ∧
      (∃ s : State, s.IsR256 ⟨255#8, 0#8, 0#1, 1#1, 0#32⟩ ∧ readSlot s.items 255 = none) :=
  ⟨⟨rej256 ⟨255#8, 255#8, 1#1, 1#1, 1#32⟩ [], ⟨rfl, rfl⟩, rfl⟩, ⟨⟨rfl, rfl⟩, rfl⟩, ⟨⟨rfl, rfl⟩, rfl⟩,
    ⟨s256 .unchecked ⟨255#8, 0#8, 0#1, 1#1, 0#32⟩ [], ⟨rfl, rfl⟩, rfl⟩⟩

/-- The clauses of WRITE of RN: unchecked and full, not full with `tail` in the last slot, `OVERWRITE_OLDEST` and full with
`head` in the last slot, `REJECT` and full. -/
theorem test_witness_RNWriteResult :
    ((fullN .unchecked).IsRN 8 .bugCompatible ⟨7#16, 6#16, 0#32⟩ ∧ (6#16 : Index16).toNat < 8 ∧
        (fullN .unchecked).cfg.overwritePolicy = .unchecked) ∧
      (∃ s : State, s.IsRN 8 .bugCompatible ⟨3#16, 7#16, 0#32⟩ ∧ (7#16 : Index16).toNat < 8 ∧
        (7#16 : Index16).toNat ≠ ((3#16 : Index16).toNat + 8 - 1) % 8) ∧
      ((fullN .overwriteOldest).cfg.overwritePolicy = .overwriteOldest ∧
        (6#16 : Index16).toNat = ((7#16 : Index16).toNat + 8 - 1) % 8) ∧
      (fullN .reject).cfg.overwritePolicy = .reject :=
  ⟨⟨⟨rfl, rfl⟩, by decide, rfl⟩,
    ⟨sN 8 .bugCompatible .reject ⟨3#16, 7#16, 0#32⟩ [], ⟨rfl, rfl⟩, by decide, by decide⟩, ⟨rfl, by decide⟩, rfl⟩

/-- The clauses of READ of RN: rejected, empty, a slot with a value, a slot with none; `head` in the last slot. -/
theorem test_witness_RNReadResult :
    (∃ s : State, s.IsRN 8 .corrected ⟨7#16, 7#16, 0#32⟩ ∧ s.cfg.emptyReadPolicy = .reject) ∧
      ((emptyN .corrected).IsRN 8 .corrected ⟨7#16, 7#16, 0#32⟩ ∧ (7#16 : Index16).toNat < 8 ∧
        (emptyN .corrected).cfg.emptyReadPolicy = .unchecked) ∧
      (oneN.IsRN 8 .corrected ⟨7#16, 0#16, 0#32⟩ ∧ readSlot oneN.items 7 = some 0x31) ∧
      (∃ s : State, s.IsRN 8 .corrected ⟨7#16, 0#16, 0#32⟩ ∧ readSlot s.items 7 = none) :=
  ⟨⟨rejN 8 ⟨7#16, 7#16, 0#32⟩ [], ⟨rfl, rfl⟩, rfl⟩, ⟨⟨rfl, rfl⟩, by decide, rfl⟩, ⟨⟨rfl, rfl⟩, rfl⟩,
    ⟨sN 8 .corrected .unchecked ⟨7#16, 0#16, 0#32⟩ [], ⟨rfl, rfl⟩, rfl⟩⟩

/-- A WRITE that stores and one that is declined, one that drops the oldest item, and one with `tail` in no last slot. -/
theorem test_witness_WriteFrame :
    (Instr.r256Write 1).isWrite = true ∧ (∃ t, exec (.r256Write 1) (full256 .overwriteOldest) = .next t) ∧
      (∃ t, exec (.r256Write 1) (full256 .reject) = .next t) ∧ (full256 .reject).tailMoves (.r256Write 1) = false ∧
      (full256 .unchecked).headMoves (.r256Write 1) = false ∧ (∃ t, exec (.r256Write 1) one256 = .next t) ∧
      (0#8 : Index8) ≠ 255#8 ∧ (∃ t, exec (.rnWrite 1) (fullN .unchecked) = .next t) :=
  ⟨rfl, ⟨_, rfl⟩, ⟨_, rfl⟩, rfl, rfl, ⟨_, rfl⟩, by decide, ⟨_, rfl⟩⟩

/-- A READ that returns an item, one that is declined, and in RN one that does not wrap. -/
theorem test_witness_ReadFrame :
    Instr.r256Read.isRead = true ∧ (∃ t, exec .r256Read one256 = .next t) ∧ one256.empty = false ∧
      readSlot one256.items one256.regs.headSlot ≠ none ∧
      (∃ s : State, s.headMoves .r256Read = false ∧ ∃ t, exec .r256Read s = .next t) ∧
      (∃ (s : State) (r : RNRegs), s.regs = .rn r ∧ r.head.toNat + 1 ≠ s.cfg.cap ∧ ∃ t, exec .rnRead s = .next t) :=
  ⟨rfl, ⟨_, rfl⟩, rfl, by decide, ⟨rej256 ⟨255#8, 255#8, 1#1, 1#1, 1#32⟩ [], rfl, _, rfl⟩,
    ⟨sN 8 .corrected .unchecked ⟨6#16, 7#16, 0#32⟩ [(6, 1)], _, rfl, by decide, _, rfl⟩⟩

theorem test_witness_AdvanceOfR256 : (⟨255#8, 255#8, 0#1, 0#1, 0xFFFFFFFF#32⟩ : R256Regs).head.toNat = 255 ∧
    (⟨254#8, 255#8, 0#1, 0#1, 0#32⟩ : R256Regs).head.toNat ≠ 255 := by decide

theorem test_witness_AdvanceOfRN : 1 ≤ 32768 ∧ 32768 ≤ 32768 ∧ (32767#16 : Index16).toNat < 32768 ∧
    (32767#16 : Index16).toNat + 1 = 32768 ∧ (0#16 : Index16).toNat < 1 := by decide

theorem test_witness_FullNIsTailJustBeforeHead : (1 ≤ 32768 ∧ (0#16 : Index16).toNat < 32768 ∧
    (32767#16 : Index16).toNat < 32768) ∧ (0#16 : Index16).toNat = 0 := by decide

theorem test_witness_EmptyAndFullExclusive :
    (2 ≤ 2 ∧ (1#16 : Index16).toNat < 2 ∧ (0#16 : Index16).toNat < 2) ∧ (0#16 : Index16).toNat < 1 := by decide

theorem test_witness_OccupancyOfRN :
    1 ≤ 2 ∧ 2 ≤ 32768 ∧ (1#16 : Index16).toNat < 2 ∧ (0#16 : Index16).toNat < 2 ∧ 2 ≤ 2 := by decide

theorem test_witness_StepKeepsInv :
    (full256 .unchecked).Inv ∧ (∃ t, step (full256 .unchecked) = .next t) ∧ (fullN .overwriteOldest).Inv :=
  ⟨full256_inv _, ⟨_, rfl⟩, fullN_inv _⟩

theorem test_witness_ResetMeetsInvariants :
    (cfgN 1 .corrected .reject .reject).wf = true ∧ Config.default.wf = true := ⟨rfl, rfl⟩

theorem test_witness_StepNeverFaults : State.reset.Inv ∧ (emptyN .corrected).Inv :=
  ⟨⟨rfl, rfl, by decide, by decide, rfl⟩, emptyN_inv _⟩

/-- At the wrap of `head` where `wrapR` overflows. -/
theorem test_witness_StepKeepsGenParity :
    ∃ s t, State.GenParity s ∧ s.port = .command 0x05#8 0 :: [] ∧ step s = .next t := by
  refine ⟨(s256 .unchecked ⟨255#8, 0#8, 1#1, 0#1, 0xFFFFFFFF#32⟩ [(255, 1)]).present 0x05#8 0, _, ?_, rfl, rfl⟩
  intro r hr
  cases hr
  rfl

theorem test_witness_StepKeepsQueueSound :
    one256.Inv ∧ (one256.pvEmpty → one256.QueueSound) ∧
      (∃ t, step (one256.present 0x04#8 3) = .next t ∧ t.pvEmpty) :=
  ⟨one256_inv, fun _ => one256_sound, ⟨_, rfl, rfl⟩⟩

theorem test_witness_StepKeepsConfiguration : ∃ t, step { one256 with port := [.reset] } = .next t := ⟨_, rfl⟩

theorem test_witness_MarksAreSticky :
    (∃ s : State, s.pv = ⟨true, true, true⟩ ∧ s.refusedMark = true ∧ s.port = [.reset]) ∧
      (∃ reason, step (State.reset.present 0xFF#8 0) = .refused reason) :=
  ⟨⟨{ one256 with pv := ⟨true, true, true⟩, refusedMark := true, port := [.reset] }, rfl, rfl, rfl⟩, ⟨_, rfl⟩⟩

theorem test_witness_MarksAreNeverRead : ∃ t, step ((full256 .unchecked).present 0x04#8 1) = .next t := ⟨_, rfl⟩

theorem test_witness_ReasonsMarked :
    (∃ t, exec (.r256Write 1) (full256 .unchecked) = .next t) ∧ (full256 .unchecked).full = true ∧
      (∃ t, exec .r256Read empty256 = .next t) ∧ empty256.empty = true ∧
      (∃ s : State, (∃ t, exec .r256Read s = .next t) ∧ s.empty = false ∧ readSlot s.items s.regs.headSlot = none) :=
  ⟨⟨_, rfl⟩, rfl, ⟨_, rfl⟩, rfl, ⟨s256 .unchecked ⟨255#8, 0#8, 0#1, 1#1, 0#32⟩ [], ⟨_, rfl⟩, rfl, rfl⟩⟩

theorem test_witness_WrittenSlotKeepsAValue :
    (∃ t, step (one256.present 0x05#8 0) = .next t) ∧ (∀ rest, (one256.present 0x05#8 0).port ≠ .reset :: rest) ∧
      readSlot one256.items 255 ≠ none :=
  ⟨⟨_, rfl⟩, by intro rest h; simp [State.present] at h, by decide⟩

/-- The third clause: a WRITE and a READ that `REJECT` declines. -/
theorem test_witness_IndicesMoveByOneSlot :
    (one256.Inv ∧ ∃ t, exec .r256Read one256 = .next t) ∧
      ((full256 .reject).Inv ∧ (Instr.r256Write 1).changesState = true ∧
        (full256 .reject).tailMoves (.r256Write 1) = false ∧ (full256 .reject).headMoves (.r256Write 1) = false ∧
        ∃ t, exec (.r256Write 1) (full256 .reject) = .next t) :=
  ⟨⟨one256_inv, _, rfl⟩, full256_inv _, rfl, rfl, rfl, _, rfl⟩

theorem test_witness_CountGrowsWithHead :
    one256.Inv ∧ (∃ t, exec .r256Read one256 = .next t) ∧ one256.headMoves .r256Read = true ∧
      oneN.Inv ∧ (∃ t, exec .rnRead oneN = .next t) := ⟨one256_inv, ⟨_, rfl⟩, rfl, oneN_inv, ⟨_, rfl⟩⟩

theorem test_witness_WriteAppendsToQueue :
    one256.Inv ∧ (Instr.r256Write 1).isWrite = true ∧ one256.full = false ∧ one256.occ ≤ one256.cfg.usableCapacity ∧
      ∃ t, exec (.r256Write 1) one256 = .next t := ⟨one256_inv, rfl, rfl, by decide, _, rfl⟩

theorem test_witness_ReadTakesTheOldest :
    oneN.Inv ∧ Instr.rnRead.isRead = true ∧ oneN.empty = false ∧ oneN.QueueSound ∧ ∃ t, exec .rnRead oneN = .next t :=
  ⟨oneN_inv, rfl, rfl, oneN_sound, _, rfl⟩

theorem test_witness_OverwriteDropsTheOldest :
    (fullN .overwriteOldest).Inv ∧ (Instr.rnWrite 1).isWrite = true ∧
      (Instr.rnWrite 1).ofVariant (fullN .overwriteOldest).cfg.variant = true ∧ 2 ≤ (fullN .overwriteOldest).cfg.cap ∧
      (fullN .overwriteOldest).cfg.overwritePolicy = .overwriteOldest ∧ (fullN .overwriteOldest).full = true :=
  ⟨fullN_inv _, rfl, rfl, by decide, rfl, rfl⟩

theorem test_witness_WriteThenReadReturnsItem :
    empty256.Inv ∧ empty256.empty = true ∧ empty256.full = false ∧ 255 < 2 ^ empty256.cfg.itemW ∧
      (emptyN .corrected).Inv ∧ (emptyN .corrected).empty = true ∧ (emptyN .corrected).full = false :=
  ⟨empty256_inv, rfl, rfl, by decide, emptyN_inv _, rfl, rfl⟩

theorem test_witness_ReadKeepsNotFull :
    oneN.Inv ∧ Instr.rnRead.isRead = true ∧ oneN.occ ≤ oneN.cfg.usableCapacity ∧ oneN.empty = false ∧
      oneN.full = false ∧ ∃ t, exec .rnRead oneN = .next t := ⟨oneN_inv, rfl, by decide, rfl, rfl, _, rfl⟩

theorem test_witness_WriteKeepsNotEmpty :
    (emptyN .corrected).Inv ∧ (Instr.rnWrite 1).isWrite = true ∧
      (emptyN .corrected).occ ≤ (emptyN .corrected).cfg.usableCapacity ∧ (emptyN .corrected).full = false ∧
      ∃ t, exec (.rnWrite 1) (emptyN .corrected) = .next t := ⟨emptyN_inv _, rfl, by decide, rfl, _, rfl⟩

/-- Both cases of `h`, 255 and another. -/
theorem test_witness_R256WriteWhileFull :
    (∀ h, h = 255#8 ∨ h = 5#8 → ∃ s : State, s.IsR256 ⟨h, h, 0#1, 1#1, 0#32⟩ ∧ s.cfg.overwritePolicy = .unchecked) ∧
      (0#1 : Bit) ≠ 1#1 :=
  ⟨fun h _ => ⟨s256 .unchecked ⟨h, h, 0#1, 1#1, 0#32⟩ [], ⟨rfl, rfl⟩, rfl⟩, by decide⟩

theorem test_witness_R256ReadWhileEmpty :
    (empty256.IsR256 ⟨255#8, 255#8, 1#1, 1#1, 1#32⟩ ∧ empty256.cfg.emptyReadPolicy = .unchecked) ∧
      (State.reset.IsR256 ⟨0#8, 0#8, 0#1, 0#1, 0#32⟩ ∧ State.reset.cfg.emptyReadPolicy = .unchecked) :=
  ⟨⟨⟨rfl, rfl⟩, rfl⟩, ⟨⟨rfl, rfl⟩, rfl⟩⟩

theorem test_witness_RNWriteWhileFull :
    (fullN .unchecked).IsRN 8 .bugCompatible ⟨7#16, 6#16, 0#32⟩ ∧ 2 ≤ 8 ∧ 8 ≤ 32768 ∧ (7#16 : Index16).toNat < 8 ∧
      (6#16 : Index16).toNat = ((7#16 : Index16).toNat + 8 - 1) % 8 ∧
      (fullN .unchecked).cfg.overwritePolicy = .unchecked := ⟨⟨rfl, rfl⟩, by decide, by decide, by decide, by decide, rfl⟩

/-- `h = SIZE - 1` and `h < SIZE - 1`, in both modes. -/
theorem test_witness_RNReadWhileEmpty :
    (∀ mode, (emptyN mode).IsRN 8 mode ⟨7#16, 7#16, 0#32⟩ ∧ (emptyN mode).cfg.emptyReadPolicy = .unchecked) ∧
      (∀ mode, ∃ s : State, s.IsRN 8 mode ⟨0#16, 0#16, 0#32⟩ ∧ s.cfg.emptyReadPolicy = .unchecked) ∧
      (7#16 : Index16).toNat < 8 ∧ (0#16 : Index16).toNat < 8 - 1 :=
  ⟨fun _ => ⟨⟨rfl, rfl⟩, rfl⟩, fun mode => ⟨sN 8 mode .unchecked ⟨0#16, 0#16, 0#32⟩ [], ⟨rfl, rfl⟩, rfl⟩, by decide,
    by decide⟩

/-- Under each policy of WRITE, and under the other policy of READ. -/
theorem test_witness_SizeOneInstance :
    (∀ o, State.Inv (sN 1 .corrected o ⟨0#16, 0#16, 0#32⟩ []) ∧
      (sN 1 .corrected o ⟨0#16, 0#16, 0#32⟩ []).IsRN 1 .corrected ⟨0#16, 0#16, 0#32⟩ ∧
      (sN 1 .corrected o ⟨0#16, 0#16, 0#32⟩ []).cfg.overwritePolicy = o) ∧
      (rejN 1 ⟨0#16, 0#16, 0#32⟩ []).Inv ∧ (rejN 1 ⟨0#16, 0#16, 0#32⟩ []).cfg.emptyReadPolicy = .reject :=
  ⟨fun _ => ⟨⟨rfl, rfl, (by decide : 0 < 1), (by decide : 0 < 1), rfl⟩, ⟨rfl, rfl⟩, rfl⟩, ⟨rfl, rfl, by decide, by decide, rfl⟩, rfl⟩

/-- 255 items and 256. -/
theorem test_witness_R256AvailableAndFullGiveOccupancy :
    R256Regs.occ ⟨0#8, 255#8, 0#1, 0#1, 0#32⟩ ≤ 256 ∧ R256Regs.occ ⟨9#8, 9#8, 0#1, 1#1, 0#32⟩ ≤ 256 := by decide

/-- `tail < head` and `head ≤ tail`. -/
theorem test_witness_RNAvailableGivesOccupancy :
    1 ≤ 32768 ∧ 32768 ≤ 32768 ∧ (32767#16 : Index16).toNat < 32768 ∧ (0#16 : Index16).toNat < 32768 ∧
      (0#16 : Index16).toNat < (32767#16 : Index16).toNat := by decide

end Sys2Proof.Tests
end

section
/-!
PROOFS. 00_scope.md: the configurations an instance is built from (R5, R6).
-/

namespace Sys2Proof.Machine

/-- Only an RN variant has a size that is not admitted (00_scope.md R5). -/
theorem variantSizeAdmitted_eq_false_iff (v : Variant) :
    v.sizeAdmitted = false ↔ ∃ size mode, v = .rn size mode ∧ (size = 0 ∨ size > 32768) := by
  cases v with
  | r256 => simp [Variant.sizeAdmitted]
  | rn size mode =>
    have hrange : ¬(1 ≤ size ∧ size ≤ 32768) ↔ size = 0 ∨ size > 32768 := by omega
    simp [Variant.sizeAdmitted, ← hrange]

/-- A configuration is not well formed exactly for a size of R5 or a width of R6. -/
theorem configWf_eq_false_iff (cfg : Config) :
    cfg.wf = false ↔ cfg.variant.sizeAdmitted = false ∨ cfg.itemW < 1 ∨ cfg.cntW ≠ 32 := by
  simp only [Config.wf, Bool.and_eq_false_iff, decide_eq_false_iff_not, Nat.not_le, or_assoc, ne_eq]

theorem build_of_wf {cfg : Config} (h : cfg.wf = true) : build cfg = .next (State.built cfg) := by
  simp [build, h]

/-- Building is refused for the configurations that are not well formed, and for no other. -/
theorem build_eq_refused_iff (cfg : Config) : build cfg = .refused .badConfiguration ↔ cfg.wf = false := by
  cases h : cfg.wf with
  | true => simp [build_of_wf h]
  | false => simp [build, h]

/-- Settles O11: building refuses what `Config.wf` rejects, which is the sizes of R5 and the widths of R6. -/
theorem badConfigurationRefused : Obligations.BadConfigurationRefused := by
  intro cfg
  constructor
  · rw [build_eq_refused_iff, configWf_eq_false_iff, variantSizeAdmitted_eq_false_iff]
  · cases h : cfg.wf with
    | true => exact .inl ⟨State.built cfg, build_of_wf h⟩
    | false => exact .inr ((build_eq_refused_iff cfg).mpr h)

end Sys2Proof.Machine
end

section
/-!
PROOFS. 10_state.md: what a query leaves alone (R35), how far an index moves (R34), and the reset values (R30; R180 of
70_reset_and_hazards.md).
-/

namespace Sys2Proof.Machine

variable {s t : State} {i : Instr}

/-! ### The operations that change state (30_encoding.md R61) -/

theorem changesState_eq (i : Instr) : i.changesState = (i.isWrite || i.isRead) := by
  cases i <;> rfl

/-- An instruction with a query's value is neither a WRITE nor a READ. -/
theorem not_transfer_of_queryValue {v : Count} (h : queryValue i s = some v) :
    i.isWrite = false ∧ i.isRead = false := by
  cases i with
  | r256Write _ | r256Read | rnWrite _ | rnRead => simp [queryValue] at h
  | _ => exact ⟨rfl, rfl⟩

/-- Settles O22: of the three things an instruction can do, a query only answers. -/
theorem queriesChangeNoState : Obligations.QueriesChangeNoState := by
  intro i s t hi h
  rcases exec_cases h with ⟨v, _, rfl⟩ | ⟨w, rfl | rfl, _⟩ | ⟨rfl | rfl, _⟩
  · exact ⟨v, rfl⟩
  all_goals simp [Instr.changesState] at hi

/-! ### An advance moves its index one slot modulo `CAP` (40_index_and_detector.md R80, R83) -/

theorem adv256_fst_toNat (i : Index8) : (adv256 i).1.toNat = (i.toNat + 1) % 256 := by
  simp [adv256]

theorem advN_fst_toNat {size : Nat} {i : Index16} (hi : i.toNat < size) (hs : size ≤ 32768) :
    (advN size i).1.toNat = (i.toNat + 1) % size := by
  rw [succ_mod hi]
  unfold advN
  split
  · rfl
  · have hlt : i.toNat + 1 < 2 ^ 16 := by omega
    simpa using Nat.mod_eq_of_lt hlt

theorem State.Inv.advanceTail_tailSlot (h : s.Inv) :
    (s.regs.advanceTail s.cfg.cap).tailSlot = (s.regs.tailSlot + 1) % s.cfg.cap := by
  have hlt := h.tailLt
  rcases h.regs_cases with ⟨r, hr⟩ | ⟨size, mode, r, hr⟩
  · rw [hr.2, hr.cap]
    exact adv256_fst_toNat r.tail
  · rw [hr.2] at hlt ⊢
    exact advN_fst_toNat hlt h.cap_bounds.2

theorem State.Inv.advanceHead_headSlot (h : s.Inv) :
    (s.regs.advanceHead s.cfg.cap).headSlot = (s.regs.headSlot + 1) % s.cfg.cap := by
  have hlt := h.headLt
  rcases h.regs_cases with ⟨r, hr⟩ | ⟨size, mode, r, hr⟩
  · rw [hr.2, hr.cap]
    exact adv256_fst_toNat r.head
  · rw [hr.2] at hlt ⊢
    exact advN_fst_toNat hlt h.cap_bounds.2

/-- The two advances act on different registers. -/
theorem Regs.advanceTail_advanceHead (cap : Nat) (g : Regs) :
    (g.advanceHead cap).advanceTail cap = (g.advanceTail cap).advanceHead cap := by
  cases g <;> rfl

/-! ### Where WRITE and READ leave the two indices -/

/-- A WRITE that is not declined advances `tail`, and before it `head` where it drops the oldest item. -/
theorem State.prepared_stored_regs (w : Item) (hn : ¬(s.cfg.overwritePolicy = .reject ∧ s.full = true)) :
    (s.prepared.stored w).regs =
      if s.cfg.overwritePolicy = .overwriteOldest ∧ s.full = true then
        (s.regs.advanceHead s.cfg.cap).advanceTail s.cfg.cap
      else s.regs.advanceTail s.cfg.cap := by
  rcases State.prepared_cases hn with ⟨_, hp, he⟩ | ⟨hf, hp, he⟩ | ⟨hf, he⟩
  · simp [State.stored, he, hp]
  · simp [State.stored, he, hp, hf]
  · simp [State.stored, he, hf]

theorem writeItem_tailSlot {w : Item} (hs : s.Inv) (h : writeItem w s = .next t) :
    t.regs.tailSlot = if s.cfg.overwritePolicy = .reject ∧ s.full = true then s.regs.tailSlot
      else (s.regs.tailSlot + 1) % s.cfg.cap := by
  rcases writeItem_cases h with ⟨hp, hf, rfl⟩ | ⟨hn, _, rfl⟩
  · simp [hp, hf]
  · rw [if_neg hn, State.prepared_stored_regs w hn, ← hs.advanceTail_tailSlot]
    split
    · rw [Regs.advanceTail_advanceHead, Regs.advanceHead_tailSlot]
    · rfl

theorem writeItem_headSlot {w : Item} (hs : s.Inv) (h : writeItem w s = .next t) :
    t.regs.headSlot = if s.cfg.overwritePolicy = .overwriteOldest ∧ s.full = true then
      (s.regs.headSlot + 1) % s.cfg.cap else s.regs.headSlot := by
  rcases writeItem_cases h with ⟨hp, _, rfl⟩ | ⟨hn, _, rfl⟩
  · simp [hp]
  · rw [State.prepared_stored_regs w hn]
    split
    · rw [Regs.advanceTail_headSlot, hs.advanceHead_headSlot]
    · rw [Regs.advanceTail_headSlot]

theorem readItem_tailSlot (h : readItem s = .next t) : t.regs.tailSlot = s.regs.tailSlot := by
  rcases readItem_cases h with ⟨_, _, rfl⟩ | ⟨_, _, rfl⟩
  · rfl
  · simp [s.marked_frame.2.1]

theorem readItem_headSlot (hs : s.Inv) (h : readItem s = .next t) :
    t.regs.headSlot = if s.cfg.emptyReadPolicy = .reject ∧ s.empty = true then s.regs.headSlot
      else (s.regs.headSlot + 1) % s.cfg.cap := by
  obtain ⟨hcfg, hregs, _⟩ := s.marked_frame
  rcases readItem_cases h with ⟨hp, he, rfl⟩ | ⟨hn, _, rfl⟩
  · simp [hp, he]
  · rw [if_neg hn, ← hs.advanceHead_headSlot]
    simp [hcfg, hregs]

/-! ### When an index moves (10_state.md R34) -/

theorem State.tailMoves_iff (s : State) (i : Instr) :
    s.tailMoves i = true ↔ i.isWrite = true ∧ ¬(s.cfg.overwritePolicy = .reject ∧ s.full = true) := by
  simp [State.tailMoves, imp_iff_not_or]

theorem State.headMoves_iff (s : State) (i : Instr) :
    s.headMoves i = true ↔
      (i.isRead = true ∧ ¬(s.cfg.emptyReadPolicy = .reject ∧ s.empty = true)) ∨
        (i.isWrite = true ∧ s.cfg.overwritePolicy = .overwriteOldest ∧ s.full = true) := by
  simp [State.headMoves, and_assoc, imp_iff_not_or]

theorem exec_tailSlot (hs : s.Inv) (h : exec i s = .next t) :
    t.regs.tailSlot = if s.tailMoves i then (s.regs.tailSlot + 1) % s.cfg.cap else s.regs.tailSlot := by
  rcases exec_cases h with ⟨v, hv, rfl⟩ | ⟨w, hw, hx⟩ | ⟨hr, hx⟩
  · obtain ⟨hw, _⟩ := not_transfer_of_queryValue hv
    simp [State.tailMoves_iff, hw]
  · rw [writeItem_tailSlot hs hx, ← ite_not]
    rcases hw with rfl | rfl <;> simp [State.tailMoves_iff, Instr.isWrite]
  · rw [readItem_tailSlot hx]
    rcases hr with rfl | rfl <;> simp [State.tailMoves_iff, Instr.isWrite]

theorem exec_headSlot (hs : s.Inv) (h : exec i s = .next t) :
    t.regs.headSlot = if s.headMoves i then (s.regs.headSlot + 1) % s.cfg.cap else s.regs.headSlot := by
  rcases exec_cases h with ⟨v, hv, rfl⟩ | ⟨w, hw, hx⟩ | ⟨hr, hx⟩
  · obtain ⟨hw, hr⟩ := not_transfer_of_queryValue hv
    simp [State.headMoves_iff, hw, hr]
  · rw [writeItem_headSlot hs hx]
    rcases hw with rfl | rfl <;> simp [State.headMoves_iff, Instr.isWrite, Instr.isRead]
  · rw [readItem_headSlot hs hx, ← ite_not]
    rcases hr with rfl | rfl <;> simp [State.headMoves_iff, Instr.isWrite, Instr.isRead]

/-- A WRITE that leaves `tail` and a READ that leaves `head` are declined (60_exceptions.md R173). -/
theorem exec_declined (hi : i.changesState = true) (h : exec i s = .next t) (htail : s.tailMoves i = false)
    (hhead : s.headMoves i = false) : t = s.respond Response.declined := by
  have hnt := mt (s.tailMoves_iff i).mpr (by simp [htail])
  have hnh := mt (s.headMoves_iff i).mpr (by simp [hhead])
  rw [changesState_eq, Bool.or_eq_true] at hi
  rcases hi with hw | hr
  · rcases writeItem_cases (exec_isWrite hw h) with ⟨_, _, ht⟩ | ⟨hn, _⟩
    · exact ht
    · exact absurd ⟨hw, hn⟩ hnt
  · rcases readItem_cases (exec_isRead hr h) with ⟨_, _, ht⟩ | ⟨hn, _⟩
    · exact ht
    · exact absurd (.inl ⟨hr, hn⟩) hnh

/-- Settles O45: each index moves one slot exactly where R34 says, and what moves none is declined. -/
theorem indicesMoveByOneSlot : Obligations.IndicesMoveByOneSlot := by
  intro i s t hs h
  exact ⟨exec_tailSlot hs h, exec_headSlot hs h, fun hi htail hhead => exec_declined hi h htail hhead⟩

/-! ### The reset event (10_state.md R30; 70_reset_and_hazards.md R180) -/

/-- With the reset event next at the port, a step takes it and resets. -/
theorem step_of_reset_port {rest : List HostEvent} (hwf : s.cfg.wf = true) (hp : s.port = .reset :: rest) :
    step s = .next (State.applyReset { s with port := rest }) := by
  simp [step, fetch, hwf, hp]

/-- Settles O9: `build` answers `State.built`, and `State.applyReset` sets the same registers and store. -/
theorem builtInstanceIsZeroed : Obligations.BuiltInstanceIsZeroed := by
  intro cfg hwf
  refine ⟨State.built cfg, build_of_wf hwf, rfl, ?r256, ?rn, fun _ => rfl, ?reset⟩
  case r256 =>
    intro hv
    exact ⟨_, by rw [State.built_regs, hv, Regs.zero], rfl, rfl, rfl, rfl, rfl⟩
  case rn =>
    intro size mode hv
    exact ⟨_, by rw [State.built_regs, hv, Regs.zero], rfl, rfl, rfl⟩
  case reset =>
    rintro u rest rfl hp
    exact ⟨_, step_of_reset_port hwf hp, rfl, rfl, rfl⟩

/-- Settles O10: the step's next state is `State.applyReset` of the state with the event taken. -/
theorem hostResetZeroesRegistersAndSlots : Obligations.HostResetZeroesRegistersAndSlots := by
  intro s rest hwf hp
  refine ⟨_, step_of_reset_port hwf hp, rfl, rfl, rfl, rfl, ?r256, ?rn, fun _ => rfl⟩
  case r256 =>
    intro hv
    rw [State.applyReset_regs, hv, Regs.zero]
  case rn =>
    intro size mode hv
    rw [State.applyReset_regs, hv, Regs.zero]

end Sys2Proof.Machine
end

section
/-!
PROOFS. 30_encoding.md: which command words are legal and what they select (R61 to R63, R66), and who reads `WDATA` (R64).
-/

namespace Sys2Proof.Machine

variable {s t : State} {cfg : Config} {v : Variant} {op : BitVec 3} {cmd : Cmd} {wdata : Nat}

/-! ### The fields of a command word (30_encoding.md R61) -/

theorem cmd_toNat (cmd : Cmd) : cmd.toNat = (cmdRsv cmd).toNat * 8 + (cmdOp cmd).toNat := by
  simp only [cmdRsv, cmdOp, BitVec.extractLsb'_toNat, Nat.shiftRight_eq_div_pow]
  omega

theorem cmdRsv_eq_zero_iff (cmd : Cmd) : cmdRsv cmd = 0 ↔ cmd.toNat < 8 := by
  have hword := cmd_toNat cmd
  have hop := (cmdOp cmd).isLt
  simp only [BitVec.ofNat_eq_ofNat, ← BitVec.toNat_inj, BitVec.toNat_ofNat]
  omega

theorem cmdOp_toNat_of_rsv (h : cmdRsv cmd = 0) : (cmdOp cmd).toNat = cmd.toNat := by
  simp [cmd_toNat cmd, h]

/-- The illegal words of R66 are those above 5. -/
theorem reservedWord_iff (cmd : Cmd) : (cmdRsv cmd ≠ 0 ∨ cmdOp cmd = 6#3 ∨ cmdOp cmd = 7#3) ↔ 5 < cmd.toNat := by
  have hword := cmd_toNat cmd
  have hop := (cmdOp cmd).isLt
  rw [ne_eq, cmdRsv_eq_zero_iff]
  simp only [← BitVec.toNat_inj, BitVec.toNat_ofNat]
  omega

/-! ### The opcode map (30_encoding.md R62, R63) -/

theorem decodeOp_ok (item : Item) (h : op.toNat ≤ 5) : ∃ i, decodeOp v op item = .ok i := by
  unfold decodeOp
  generalize op.toNat = n at h
  cases v <;> interval_cases n <;> exact ⟨_, rfl⟩

theorem decodeOp_reserved (item : Item) (h : 5 < op.toNat) : decodeOp v op item = .error .reservedOp := by
  have hlt := op.isLt
  unfold decodeOp
  generalize op.toNat = n at h hlt
  cases v <;> interval_cases n <;> rfl

/-- Only the row of WRITE holds the item. -/
theorem decodeOp_item_irrel (a b : Item) (h : op.toNat ≠ 4) : decodeOp v op a = decodeOp v op b := by
  have hlt := op.isLt
  unfold decodeOp
  generalize op.toNat = n at h hlt
  rcases Nat.lt_or_gt_of_ne h with hbelow | habove
  · cases v <;> interval_cases n <;> rfl
  · cases v <;> interval_cases n <;> rfl

theorem decode_of_rsv_zero (wdata : Nat) (h : cmdRsv cmd = 0) :
    decode cfg cmd wdata = decodeOp cfg.variant (cmdOp cmd) (itemBits cfg.itemW wdata) :=
  if_pos h

theorem decode_of_rsv_ne_zero (wdata : Nat) (h : cmdRsv cmd ≠ 0) : decode cfg cmd wdata = .error .reservedBits :=
  if_neg h

/-- The words that decode are those up to 5 (30_encoding.md R62, R66). -/
theorem decode_ok_iff (cfg : Config) (cmd : Cmd) (wdata : Nat) :
    (∃ i, decode cfg cmd wdata = .ok i) ↔ cmd.toNat ≤ 5 := by
  by_cases hrsv : cmdRsv cmd = 0
  · rw [decode_of_rsv_zero wdata hrsv, ← cmdOp_toNat_of_rsv hrsv]
    refine ⟨fun ⟨i, hi⟩ => ?_, decodeOp_ok _⟩
    by_contra hgt
    simp [decodeOp_reserved _ (Nat.lt_of_not_le hgt)] at hi
  · have hge : ¬cmd.toNat < 8 := mt (cmdRsv_eq_zero_iff cmd).mpr hrsv
    rw [decode_of_rsv_ne_zero wdata hrsv]
    exact ⟨fun ⟨_, hi⟩ => (nomatch hi), fun hle => absurd (by omega) hge⟩

theorem decode_error_of_reserved (h : 5 < cmd.toNat) : ∃ e, decode cfg cmd wdata = .error e := by
  cases hd : decode cfg cmd wdata with
  | ok i => exact absurd ((decode_ok_iff cfg cmd wdata).mp ⟨i, hd⟩) (Nat.not_le_of_lt h)
  | error e => exact ⟨e, rfl⟩

/-! ### The legal words of each variant -/

/-- Settles O1: each legal word's `RSV` is zero, and the opcode map gives its row. -/
theorem legalWordsSelectTheirRow : Obligations.LegalWordsSelectTheirRow := by
  intro cfg wdata
  refine ⟨?r256, ?rn, ?op6, ?op7, fun cmd => decode_ok_iff cfg cmd wdata⟩
  case r256 =>
    intro hv
    refine ⟨?_, ?_, ?_, ?_, ?_, ?_⟩ <;> rw [decode_of_rsv_zero wdata rfl, hv] <;> rfl
  case rn =>
    intro size mode hv
    refine ⟨?_, ?_, ?_, ?_, ?_, ?_⟩ <;> rw [decode_of_rsv_zero wdata rfl, hv] <;> rfl
  case op6 => rw [decode_of_rsv_zero wdata rfl, decodeOp_reserved _ (by decide)]
  case op7 => rw [decode_of_rsv_zero wdata rfl, decodeOp_reserved _ (by decide)]

/-! ### An illegal word is refused (30_encoding.md R66) -/

theorem step_of_decode_error {rest : List HostEvent} {e : DecodeError} (hwf : s.cfg.wf = true)
    (hp : s.port = .command cmd wdata :: rest) (hd : decode s.cfg cmd wdata = .error e) :
    step s = .refused .reservedEncoding := by
  simp [step, fetch, hwf, hp, hd]

theorem advance_of_refused {r : Refusal} (h : step s = .refused r) : advance s = s.afterRefusal := by
  simp [advance, h]

/-- Settles O2: a word above 5 does not decode, so the step is refused and leaves `State.afterRefusal`. -/
theorem reservedWordRefused : Obligations.ReservedWordRefused := by
  refine ⟨reservedWord_iff, ?_⟩
  intro s cmd wdata rest hwf hp hgt
  obtain ⟨e, hd⟩ := decode_error_of_reserved (cfg := s.cfg) (wdata := wdata) hgt
  have hstep := step_of_decode_error hwf hp hd
  refine ⟨hstep, ?_⟩
  rw [advance_of_refused hstep, State.afterRefusal, hp, List.tail_cons]

/-! ### `WDATA` is the item of WRITE (30_encoding.md R64) -/

theorem decode_wdata_irrel (w₁ w₂ : Nat) (h : cmd ≠ 0x04#8) : decode cfg cmd w₁ = decode cfg cmd w₂ := by
  by_cases hrsv : cmdRsv cmd = 0
  · have hop : (cmdOp cmd).toNat ≠ 4 := by
      rw [cmdOp_toNat_of_rsv hrsv]
      exact fun h4 => h (BitVec.eq_of_toNat_eq h4)
    rw [decode_of_rsv_zero w₁ hrsv, decode_of_rsv_zero w₂ hrsv]
    exact decodeOp_item_irrel _ _ hop
  · rw [decode_of_rsv_ne_zero w₁ hrsv, decode_of_rsv_ne_zero w₂ hrsv]

/-- A step reads a command's `WDATA` through the decoder only. -/
theorem step_command_congr {w₁ w₂ : Nat} (rest : List HostEvent) (h : decode s.cfg cmd w₁ = decode s.cfg cmd w₂) :
    step { s with port := .command cmd w₁ :: rest } = step { s with port := .command cmd w₂ :: rest } := by
  simp only [step, fetch, h]
  cases s.cfg.wf <;> cases decode s.cfg cmd w₂ <;> rfl

/-- The word 0x04 is WRITE in either variant, its item the low `ITEM_W` bits of `WDATA`. -/
theorem decode_writeWord {j : Instr} (h : decode cfg 0x04#8 wdata = .ok j) :
    j.isWrite = true ∧ encodeWdata j = itemBits cfg.itemW wdata := by
  rw [decode_of_rsv_zero wdata rfl] at h
  cases hv : cfg.variant <;> rw [hv] at h <;> cases h <;> exact ⟨rfl, rfl⟩

/-- A WRITE that is not declined leaves its item in the slot `tail` named (20_memory.md R41). -/
theorem writeItem_readSlot_tail {w : Item} (h : writeItem w s = .next t)
    (hn : ¬(s.cfg.overwritePolicy = .reject ∧ s.full = true)) :
    readSlot t.items s.regs.tailSlot = some (itemBits s.cfg.itemW w) := by
  rcases writeItem_cases h with ⟨hp, hf, _⟩ | ⟨_, _, rfl⟩
  · exact absurd ⟨hp, hf⟩ hn
  · simp [State.stored, readSlot_writeSlot, s.prepared_frame.1]

theorem itemBits_itemBits (itemW v : Nat) : itemBits itemW (itemBits itemW v) = itemBits itemW v :=
  Nat.mod_mod v (2 ^ itemW)

/-- A step of the word 0x04 that is not declined stores `WDATA[ITEM_W-1:0]`. -/
theorem step_writeWord_readSlot {rest : List HostEvent} (hp : s.port = .command 0x04#8 wdata :: rest)
    (h : step s = .next t) (hn : ¬(s.cfg.overwritePolicy = .reject ∧ s.full = true)) :
    readSlot t.items s.regs.tailSlot = some (itemBits s.cfg.itemW wdata) := by
  rcases step_cases h with ⟨hp', _⟩ | ⟨_, hp', _⟩ | ⟨cmd, w, rest', j, hp', hd, hx⟩
  · simp [hp] at hp'
  · simp [hp] at hp'
  · rw [hp] at hp'
    cases hp'
    obtain ⟨hwrite, hitem⟩ := decode_writeWord hd
    have hstored := writeItem_readSlot_tail (exec_isWrite hwrite hx) hn
    rwa [hitem, itemBits_itemBits] at hstored

/-- Settles O5: only the row of WRITE holds the item, and a WRITE that moves `tail` stores it. -/
theorem wdataReadByWriteOnly : Obligations.WdataReadByWriteOnly := by
  intro s cmd w₁ w₂ rest
  refine ⟨fun hcmd => step_command_congr rest (decode_wdata_irrel w₁ w₂ hcmd), fun t h hmoves => ?_⟩
  obtain ⟨_, hn⟩ := (s.tailMoves_iff _).mp hmoves
  exact step_writeWord_readSlot (s := { s with port := .command 0x04#8 w₁ :: rest }) rfl h hn

end Sys2Proof.Machine
end

section
/-!
PROOFS. 40_index_and_detector.md: the advance of an index and of what moves with it (R80 to R85), and EMPTY and FULL
(R86 to R90).
-/

namespace Sys2Proof.Machine

/-! ### The advance of R256 (R80, R81, R82) -/

theorem adv256_snd_iff (i : Index8) : (adv256 i).2 = true ↔ i.toNat = 255 := by
  simp [adv256, ← BitVec.toNat_inj]

/-- R80's second form of the wrap flag. -/
theorem adv256_snd_iff_fst_zero (i : Index8) : (adv256 i).2 = true ↔ (adv256 i).1 = 0#8 := by
  have hlt := i.isLt
  rw [adv256_snd_iff, ← BitVec.toNat_inj, adv256_fst_toNat, BitVec.toNat_ofNat]
  omega

@[simp] theorem R256Regs.advanceHead_head (r : R256Regs) : r.advanceHead.head = (adv256 r.head).1 := rfl
@[simp] theorem R256Regs.advanceHead_tail (r : R256Regs) : r.advanceHead.tail = r.tail := rfl
@[simp] theorem R256Regs.advanceHead_genW (r : R256Regs) : r.advanceHead.genW = r.genW := rfl

theorem R256Regs.advanceHead_genR (r : R256Regs) :
    r.advanceHead.genR = if r.head.toNat = 255 then r.genR ^^^ 1#1 else r.genR := by
  simp only [R256Regs.advanceHead, adv256_snd_iff]

theorem R256Regs.advanceHead_wrapR (r : R256Regs) :
    r.advanceHead.wrapR = if r.head.toNat = 255 then r.wrapR + 1#32 else r.wrapR := by
  simp only [R256Regs.advanceHead, adv256_snd_iff]

@[simp] theorem R256Regs.advanceTail_tail (r : R256Regs) : r.advanceTail.tail = (adv256 r.tail).1 := rfl
@[simp] theorem R256Regs.advanceTail_head (r : R256Regs) : r.advanceTail.head = r.head := rfl
@[simp] theorem R256Regs.advanceTail_genR (r : R256Regs) : r.advanceTail.genR = r.genR := rfl
@[simp] theorem R256Regs.advanceTail_wrapR (r : R256Regs) : r.advanceTail.wrapR = r.wrapR := rfl

theorem R256Regs.advanceTail_genW (r : R256Regs) :
    r.advanceTail.genW = if r.tail.toNat = 255 then r.genW ^^^ 1#1 else r.genW := by
  simp only [R256Regs.advanceTail, adv256_snd_iff]

/-- Settles O29: each advance register by register, its wrap where the old index is 255. -/
theorem advanceOfR256 : Obligations.AdvanceOfR256 := by
  refine ⟨fun i => ⟨adv256_fst_toNat i, adv256_snd_iff i, adv256_snd_iff_fst_zero i⟩, fun r => ?head, fun r => ?tail⟩
  case head =>
    refine ⟨r.advanceHead_head, r.advanceHead_tail, r.advanceHead_genW, fun hwrap => ?_, fun hstay => ?_⟩
    · rw [r.advanceHead_genR, r.advanceHead_wrapR, if_pos hwrap, if_pos hwrap]
      exact ⟨rfl, BitVec.toNat_add r.wrapR 1#32⟩
    · rw [r.advanceHead_genR, r.advanceHead_wrapR, if_neg hstay, if_neg hstay]
      exact ⟨rfl, rfl⟩
  case tail =>
    exact ⟨r.advanceTail_tail, r.advanceTail_head, r.advanceTail_genR, r.advanceTail_wrapR, r.advanceTail_genW⟩

/-! ### The advance of RN (R83, R84, R85) -/

theorem advN_snd_iff (size : Nat) (i : Index16) : (advN size i).2 = true ↔ i.toNat + 1 = size := by
  unfold advN
  split <;> simp [*]

@[simp] theorem RNRegs.advanceHead_head (size : Nat) (r : RNRegs) :
    (r.advanceHead size).head = (advN size r.head).1 := rfl
@[simp] theorem RNRegs.advanceHead_tail (size : Nat) (r : RNRegs) : (r.advanceHead size).tail = r.tail := rfl

theorem RNRegs.advanceHead_wrapR (size : Nat) (r : RNRegs) :
    (r.advanceHead size).wrapR = if r.head.toNat + 1 = size then r.wrapR + 1#32 else r.wrapR := by
  simp only [RNRegs.advanceHead, advN_snd_iff]

theorem RNRegs.advanceTail_eq (size : Nat) (r : RNRegs) :
    r.advanceTail size = { r with tail := (advN size r.tail).1 } := rfl

/-- Settles O30: each advance register by register, its wrap where the old index is `SIZE - 1`. -/
theorem advanceOfRN : Obligations.AdvanceOfRN := by
  intro size hpos hmax
  refine ⟨fun i hi => ⟨?index, advN_snd_iff size i, ?one⟩, fun r _ => ?head, fun r _ => r.advanceTail_eq size⟩
  case index => rw [advN_fst_toNat hi hmax, succ_mod hi]
  case one =>
    intro hone
    rw [advN_snd_iff]
    omega
  case head =>
    refine ⟨r.advanceHead_head size, r.advanceHead_tail size, ?_⟩
    rw [r.advanceHead_wrapR, apply_ite BitVec.toNat, BitVec.toNat_add, BitVec.toNat_ofNat]

/-! ### EMPTY and FULL (R86 to R89) -/

theorem R256Regs.empty_iff (r : R256Regs) : r.empty = true ↔ r.head = r.tail ∧ r.genR = r.genW := by
  simp [R256Regs.empty]

theorem R256Regs.full_iff (r : R256Regs) : r.full = true ↔ r.head = r.tail ∧ r.genR ≠ r.genW := by
  simp [R256Regs.full]

theorem RNRegs.empty_iff (r : RNRegs) : r.empty = true ↔ r.head.toNat = r.tail.toNat := by
  simp [RNRegs.empty, BitVec.toNat_inj]

theorem RNRegs.full_iff (size : Nat) (r : RNRegs) :
    r.full size = true ↔ r.tail.toNat = (r.head.toNat + size - 1) % size := by
  simp [RNRegs.full]

section
variable {size : Nat} {r : RNRegs}

/-- FULL of RN without the remainder: `tail` is the slot before `head`. -/
theorem RNRegs.full_iff_pred (hpos : 1 ≤ size) (hh : r.head.toNat < size) :
    r.full size = true ↔ r.tail.toNat = if r.head.toNat = 0 then size - 1 else r.head.toNat - 1 := by
  rw [RNRegs.full_iff, pred_mod hpos hh]

/-- R89 in exact integers. -/
theorem RNRegs.full_iff_int (hpos : 1 ≤ size) :
    r.full size = true ↔ (r.tail.toNat : Int) = ((r.head.toNat : Int) + size - 1) % size := by
  have hcast : ((r.head.toNat + size - 1 : Nat) : Int) = (r.head.toNat : Int) + size - 1 := by omega
  rw [RNRegs.full_iff, ← hcast]
  exact Int.ofNat_inj.symm

/-- R89's second form: one more advance of `tail` makes it `head`. -/
theorem RNRegs.full_iff_succ (hpos : 1 ≤ size) (hh : r.head.toNat < size) (ht : r.tail.toNat < size) :
    r.full size = true ↔ (r.tail.toNat + 1) % size = r.head.toNat := by
  rw [RNRegs.full_iff_pred hpos hh, succ_mod ht]
  split <;> split <;> omega

end

/-- Settles O31: FULL of RN read as a remainder, as one more advance of `tail`, and at `head = 0`. -/
theorem fullNIsTailJustBeforeHead : Obligations.FullNIsTailJustBeforeHead := by
  intro size r hpos hh ht
  refine ⟨RNRegs.full_iff_int hpos, RNRegs.full_iff_succ hpos hh ht, fun hzero => ?_⟩
  rw [RNRegs.full_iff_pred hpos hh, if_pos hzero]

/-! ### EMPTY and FULL together (R90) -/

theorem R256Regs.not_empty_and_full (r : R256Regs) : ¬(r.empty = true ∧ r.full = true) := by
  rw [R256Regs.empty_iff, R256Regs.full_iff]
  rintro ⟨⟨_, hsame⟩, _, hdiff⟩
  exact hdiff hsame

/-- With an index equal to the slot before it, `SIZE` is 1. -/
theorem RNRegs.not_empty_and_full {size : Nat} {r : RNRegs} (hsize : 2 ≤ size) (hh : r.head.toNat < size) :
    ¬(r.empty = true ∧ r.full size = true) := by
  rw [RNRegs.empty_iff, RNRegs.full_iff_pred (by omega) hh]
  rintro ⟨heq, hpred⟩
  split at hpred <;> omega

/-- With `SIZE = 1` there is one slot, which is also the slot before it. -/
theorem RNRegs.empty_and_full_of_size_one {r : RNRegs} (hh : r.head.toNat < 1) (ht : r.tail.toNat < 1) :
    r.empty = true ∧ r.full 1 = true := by
  have hzero : r.head.toNat = 0 := by omega
  rw [RNRegs.empty_iff, RNRegs.full_iff_pred (Nat.le_refl 1) hh, if_pos hzero]
  omega

/-- Settles O32: R256 tells the two apart by the generation flags, RN by the slot that `SIZE ≥ 2` keeps between them. -/
theorem emptyAndFullExclusive : Obligations.EmptyAndFullExclusive :=
  ⟨R256Regs.not_empty_and_full, fun _ _ hsize hh _ => RNRegs.not_empty_and_full hsize hh,
    fun _ hh ht => RNRegs.empty_and_full_of_size_one hh ht⟩

end Sys2Proof.Machine
end

section
/-!
PROOFS. 41_fixed_ring_256.md: the six operations of R256 (R100 to R105), what a WRITE while full and a READ while empty
leave (R106, R107), and what AVAILABLE says of the occupancy (R109).
-/

namespace Sys2Proof.Machine

variable {s : State} {r : R256Regs} {cmd : Cmd} {w : Item}

/-! ### A state of R256 through its registers -/

theorem State.IsR256.decode_eq (h : s.IsR256 r) (hrsv : cmdRsv cmd = 0) (wdata : Nat) :
    decode s.cfg cmd wdata = decodeOp .r256 (cmdOp cmd) (itemBits s.cfg.itemW wdata) := by
  rw [decode_of_rsv_zero wdata hrsv, h.1]

theorem State.IsR256.empty_iff (h : s.IsR256 r) : s.empty = true ↔ r.head = r.tail ∧ r.genR = r.genW := by
  rw [State.empty, h.2]
  exact r.empty_iff

theorem State.IsR256.full_iff (h : s.IsR256 r) : s.full = true ↔ r.head = r.tail ∧ r.genR ≠ r.genW := by
  rw [State.full, h.2]
  exact r.full_iff

theorem State.IsR256.headSlot_eq (h : s.IsR256 r) : s.regs.headSlot = r.head.toNat := by
  rw [h.2]
  rfl

/-- An 8-bit index always names one of the 256 slots (10_state.md R31). -/
theorem State.IsR256.tailSlot_lt (h : s.IsR256 r) : s.regs.tailSlot < s.cfg.cap := by
  rw [h.cap, h.2]
  exact r.tail.isLt

theorem State.IsR256.headSlot_lt (h : s.IsR256 r) : s.regs.headSlot < s.cfg.cap := by
  rw [h.cap, h.2]
  exact r.head.isLt

theorem State.IsR256.advanceHead_eq (h : s.IsR256 r) : s.advanceHead = { s with regs := .r256 r.advanceHead } := by
  rw [State.advanceHead, h.2]
  rfl

theorem State.IsR256.stored_eq (h : s.IsR256 r) (w : Item) :
    s.stored w = { s with
      items := writeSlot s.items r.tail.toNat (itemBits s.cfg.itemW w)
      regs := .r256 r.advanceTail
      responses := s.responses ++ [Response.written] } := by
  rw [State.stored, h.2]
  rfl

theorem State.IsR256.advanceHead (h : s.IsR256 r) : s.advanceHead.IsR256 r.advanceHead := by
  rw [h.advanceHead_eq]
  exact ⟨h.1, rfl⟩

theorem State.IsR256.stored (h : s.IsR256 r) (w : Item) : (s.stored w).IsR256 r.advanceTail := by
  rw [h.stored_eq]
  exact ⟨h.1, rfl⟩

theorem State.IsR256.marked (h : s.IsR256 r) : s.marked.IsR256 r := by
  obtain ⟨hcfg, hregs, _⟩ := s.marked_frame
  rw [State.IsR256, hcfg, hregs]
  exact h

/-! ### The advances as records (40_index_and_detector.md R81, R82) -/

theorem R256Regs.advanceHead_eq (r : R256Regs) :
    r.advanceHead = { r with
      head := r.head + 1#8
      genR := if r.head = 255#8 then r.genR ^^^ 1#1 else r.genR
      wrapR := if r.head = 255#8 then r.wrapR + 1#32 else r.wrapR } := by
  simp [R256Regs.advanceHead, adv256]

theorem R256Regs.advanceTail_eq (r : R256Regs) :
    r.advanceTail = { r with
      tail := r.tail + 1#8
      genW := if r.tail = 255#8 then r.genW ^^^ 1#1 else r.genW } := by
  simp [R256Regs.advanceTail, adv256]

/-! ### The queries (R100 to R103) -/

theorem State.IsR256.exec_isempty (h : s.IsR256 r) :
    exec .r256Isempty s = .next (s.answer (boolValue r.empty)) := by
  simp [exec, execR256Isempty, State.asR256_eq.mpr h]

theorem State.IsR256.exec_isfull (h : s.IsR256 r) :
    exec .r256Isfull s = .next (s.answer (boolValue r.full)) := by
  simp [exec, execR256Isfull, State.asR256_eq.mpr h]

theorem State.IsR256.exec_available (h : s.IsR256 r) :
    exec .r256Available s = .next (s.answer (zext32 r.available)) := by
  simp [exec, execR256Available, State.asR256_eq.mpr h]

theorem State.IsR256.exec_count (h : s.IsR256 r) : exec .r256Count s = .next (s.answer r.count) := by
  simp [exec, execR256Count, State.asR256_eq.mpr h]

theorem boolValue_eq (b : Bool) : boolValue b = if b = true then 1#32 else 0#32 := by
  cases b <;> rfl

/-- The 8-bit difference of two indices is their integer difference modulo 256. -/
theorem zext32_sub (a b : Index8) : zext32 (a - b) = BitVec.ofInt 32 (((a.toNat : Int) - b.toNat) % 256) := by
  have ha := a.isLt
  have hb := b.isLt
  apply BitVec.eq_of_toNat_eq
  simp only [zext32, BitVec.toNat_setWidth, BitVec.toNat_sub, BitVec.toNat_ofInt]
  omega

theorem R256Regs.zext32_available (r : R256Regs) :
    zext32 r.available =
      if r.full = true then 255#32 else BitVec.ofInt 32 (((r.tail.toNat : Int) - r.head.toNat) % 256) := by
  rw [R256Regs.available, apply_ite zext32, zext32_sub]
  rfl

/-- `VALUE` has 32 bits, so COUNT is modulo `2^32`. -/
theorem R256Regs.count_eq (r : R256Regs) :
    r.count = BitVec.ofNat 32 ((r.wrapR.toNat * 256 + r.head.toNat) % 2 ^ 32) := by
  apply BitVec.eq_of_toNat_eq
  rw [R256Regs.count, BitVec.toNat_ofNat, BitVec.toNat_ofNat, Nat.mod_mod]

/-- Settles O14: the query answers `R256Regs.empty`. -/
theorem r256IsemptyResult : Obligations.R256IsemptyResult := by
  intro s r h
  refine ⟨h.decode_eq rfl, ?_⟩
  rw [h.exec_isempty, boolValue_eq]
  simp only [r.empty_iff]
  rfl

/-- Settles O15: the query answers `R256Regs.full`. -/
theorem r256IsfullResult : Obligations.R256IsfullResult := by
  intro s r h
  refine ⟨h.decode_eq rfl, ?_⟩
  rw [h.exec_isfull, boolValue_eq]
  simp only [r.full_iff]
  rfl

/-- Settles O16: the query answers `R256Regs.available`, whose 8-bit difference is the one modulo 256. -/
theorem r256AvailableResult : Obligations.R256AvailableResult := by
  intro s r h
  refine ⟨h.decode_eq rfl, ?_⟩
  rw [h.exec_available, r.zext32_available]
  simp only [r.full_iff]
  rfl

/-- Settles O17: the query answers `R256Regs.count`, reduced modulo `2^32`. -/
theorem r256CountResult : Obligations.R256CountResult := by
  intro s r h
  refine ⟨h.decode_eq rfl, ?_⟩
  rw [h.exec_count, r.count_eq]
  rfl

/-! ### WRITE (R104) -/

theorem State.IsR256.exec_write_declined (h : s.IsR256 r) (w : Item) (hp : s.cfg.overwritePolicy = .reject)
    (hf : s.full = true) : exec (.r256Write w) s = .next (s.respond Response.declined) := by
  rw [exec_write_r256 h, writeItem_eq, if_pos ⟨hp, hf⟩]

/-- A WRITE that is not declined stores, since `tail` names a slot. -/
theorem State.IsR256.exec_write (h : s.IsR256 r) (w : Item)
    (hn : ¬(s.cfg.overwritePolicy = .reject ∧ s.full = true)) :
    exec (.r256Write w) s = .next (s.prepared.stored w) := by
  rw [exec_write_r256 h, writeItem_eq, if_neg hn, storeItem_eq, State.prepared_tailSlot, s.prepared_frame.1,
    if_pos h.tailSlot_lt]

theorem State.prepared_of_not_full (hf : ¬s.full = true) : s.prepared = s :=
  if_neg hf

theorem State.prepared_of_unchecked (hp : s.cfg.overwritePolicy = .unchecked) (hf : s.full = true) :
    s.prepared = s.markPV .writeWhileFull := by
  rw [State.prepared, if_pos hf, hp]

theorem State.prepared_of_overwriteOldest (hp : s.cfg.overwritePolicy = .overwriteOldest) (hf : s.full = true) :
    s.prepared = s.advanceHead := by
  rw [State.prepared, if_pos hf, hp]

/-- R104 where no item is dropped: under `UNCHECKED`, or not full. -/
theorem State.IsR256.exec_write_keeping_oldest (h : s.IsR256 r) (w : Item)
    (hp : s.cfg.overwritePolicy = .unchecked ∨ ¬s.full = true) :
    exec (.r256Write w) s = .next { s with
      items := writeSlot s.items r.tail.toNat (itemBits s.cfg.itemW w)
      regs := .r256 r.advanceTail
      pv := if s.full = true then s.pv.add .writeWhileFull else s.pv
      responses := s.responses ++ [Response.written] } := by
  by_cases hf : s.full = true
  · have hunchecked := hp.resolve_right (not_not_intro hf)
    have hmarked : (s.markPV .writeWhileFull).IsR256 r := h
    rw [h.exec_write w (by simp [hunchecked]), State.prepared_of_unchecked hunchecked hf, hmarked.stored_eq, if_pos hf]
    rfl
  · rw [h.exec_write w (by simp [hf]), State.prepared_of_not_full hf, h.stored_eq, if_neg hf]

/-- R104 under `OVERWRITE_OLDEST` when full: the oldest item is dropped first. -/
theorem State.IsR256.exec_write_dropping_oldest (h : s.IsR256 r) (w : Item)
    (hp : s.cfg.overwritePolicy = .overwriteOldest) (hf : s.full = true) :
    exec (.r256Write w) s = .next { s with
      items := writeSlot s.items r.tail.toNat (itemBits s.cfg.itemW w)
      regs := .r256 r.advanceHead.advanceTail
      responses := s.responses ++ [Response.written] } := by
  rw [h.exec_write w (by simp [hp]), State.prepared_of_overwriteOldest hp hf, h.advanceHead.stored_eq]
  rfl

/-- Settles O23: one clause per part of R104, each an outcome of the shared WRITE. -/
theorem r256WriteResult : Obligations.R256WriteResult := by
  intro s r wdata h
  simp only [← h.full_iff]
  refine ⟨h.decode_eq rfl wdata, fun hp => ?keeping, fun hp heq hne => ?dropping, fun hp heq hne => ?declined⟩
  case keeping =>
    rw [h.exec_write_keeping_oldest wdata hp, r.advanceTail_eq]
    rfl
  case dropping =>
    rw [h.exec_write_dropping_oldest wdata hp (h.full_iff.mpr ⟨heq, hne⟩), R256Regs.advanceTail_eq,
      r.advanceHead_eq]
    rfl
  case declined => exact h.exec_write_declined wdata hp (h.full_iff.mpr ⟨heq, hne⟩)

/-! ### READ (R105) -/

theorem State.IsR256.exec_read_declined (h : s.IsR256 r) (hp : s.cfg.emptyReadPolicy = .reject)
    (he : s.empty = true) : exec .r256Read s = .next (s.respond Response.declined) := by
  rw [exec_read_r256 h, readItem_eq, if_pos ⟨hp, he⟩]

/-- A READ that is not declined takes an item, since `head` names a slot. -/
theorem State.IsR256.exec_read (h : s.IsR256 r) (hn : ¬(s.cfg.emptyReadPolicy = .reject ∧ s.empty = true)) :
    exec .r256Read s = .next { s.marked with
      regs := .r256 r.advanceHead
      responses := s.responses ++ [Response.item s.taken] } := by
  obtain ⟨_, _, _, _, _, hresp⟩ := s.marked_frame
  rw [exec_read_r256 h, readItem_eq, if_neg hn, if_pos (.inr h.headSlot_lt), h.marked.advanceHead_eq, ← hresp]
  rfl

theorem State.taken_of_empty (he : s.empty = true) : s.taken = s.drawn :=
  if_pos he

theorem State.marked_of_empty (he : s.empty = true) : s.marked = (s.markPV .readWhileEmpty).afterDraw :=
  if_pos he

theorem State.taken_of_item {v : Item} (he : ¬s.empty = true) (hv : readSlot s.items s.regs.headSlot = some v) :
    s.taken = v := by
  rw [State.taken, if_neg he, hv, Option.getD_some]

theorem State.marked_of_item {v : Item} (he : ¬s.empty = true) (hv : readSlot s.items s.regs.headSlot = some v) :
    s.marked = s := by
  rw [State.marked, if_neg he, if_neg (by simp [hv])]

theorem State.taken_of_unwritten (he : ¬s.empty = true) (hv : readSlot s.items s.regs.headSlot = none) :
    s.taken = s.drawn := by
  rw [State.taken, if_neg he, hv, Option.getD_none]

theorem State.marked_of_unwritten (he : ¬s.empty = true) (hv : readSlot s.items s.regs.headSlot = none) :
    s.marked = (s.markPV .readUnwritten).afterDraw := by
  rw [State.marked, if_neg he, if_pos hv]

/-- R105 while empty under `UNCHECKED`. -/
theorem State.IsR256.exec_read_empty (h : s.IsR256 r) (hp : s.cfg.emptyReadPolicy = .unchecked)
    (he : s.empty = true) :
    exec .r256Read s = .next { s with
      regs := .r256 r.advanceHead
      pv := s.pv.add .readWhileEmpty
      draws := s.draws + 1
      responses := s.responses ++ [Response.item s.drawn] } := by
  rw [h.exec_read (by simp [hp]), State.taken_of_empty he, State.marked_of_empty he]
  rfl

/-- R105 of a slot that holds an item. -/
theorem State.IsR256.exec_read_item (h : s.IsR256 r) {v : Item} (he : ¬s.empty = true)
    (hv : readSlot s.items s.regs.headSlot = some v) :
    exec .r256Read s = .next { s with
      regs := .r256 r.advanceHead
      responses := s.responses ++ [Response.item v] } := by
  rw [h.exec_read (by simp [he]), State.taken_of_item he hv, State.marked_of_item he hv]

/-- R105 of a slot with no value. -/
theorem State.IsR256.exec_read_unwritten (h : s.IsR256 r) (he : ¬s.empty = true)
    (hv : readSlot s.items s.regs.headSlot = none) :
    exec .r256Read s = .next { s with
      regs := .r256 r.advanceHead
      pv := s.pv.add .readUnwritten
      draws := s.draws + 1
      responses := s.responses ++ [Response.item s.drawn] } := by
  rw [h.exec_read (by simp [he]), State.taken_of_unwritten he hv, State.marked_of_unwritten he hv]
  rfl

/-- Settles O24: one clause per part of R105, each an outcome of the shared READ. -/
theorem r256ReadResult : Obligations.R256ReadResult := by
  intro s r r' h hr'
  rw [← r.advanceHead_eq] at hr'
  subst hr'
  rw [← h.empty_iff, ← h.headSlot_eq]
  exact ⟨h.decode_eq rfl,
    fun hp heq hgen => h.exec_read_declined hp (h.empty_iff.mpr ⟨heq, hgen⟩),
    fun hp heq hgen => h.exec_read_empty hp (h.empty_iff.mpr ⟨heq, hgen⟩),
    fun _ he hv => h.exec_read_item he hv,
    fun he hv => h.exec_read_unwritten he hv⟩

/-! ### The occupancy (40_index_and_detector.md R91) and AVAILABLE (R109) -/

theorem R256Regs.toNat_bounds (r : R256Regs) :
    r.head.toNat < 256 ∧ r.tail.toNat < 256 ∧ r.genR.toNat < 2 ∧ r.genW.toNat < 2 :=
  ⟨r.head.isLt, r.tail.isLt, r.genR.isLt, r.genW.isLt⟩

theorem R256Regs.empty_iff_occ (r : R256Regs) : r.empty = true ↔ r.occ = 0 := by
  obtain ⟨hh, ht, hr, hw⟩ := r.toNat_bounds
  rw [r.empty_iff, r.occ_eq, ← BitVec.toNat_inj, ← BitVec.toNat_inj]
  omega

theorem R256Regs.full_iff_occ (r : R256Regs) : r.full = true ↔ r.occ = 256 := by
  obtain ⟨hh, ht, hr, hw⟩ := r.toNat_bounds
  rw [r.full_iff, r.occ_eq, ne_eq, ← BitVec.toNat_inj, ← BitVec.toNat_inj]
  omega

/-- Whether or not the flag flips, the 9-bit view grows by one. -/
theorem R256Regs.advanceTail_occ (r : R256Regs) : r.advanceTail.occ = (r.occ + 1) % 512 := by
  obtain ⟨hh, ht, hr, hw⟩ := r.toNat_bounds
  rw [R256Regs.occ_eq, r.occ_eq, r.advanceTail_genW, apply_ite BitVec.toNat, flipBit_toNat, r.advanceTail_tail,
    adv256_fst_toNat, r.advanceTail_genR, r.advanceTail_head]
  split <;> omega

theorem R256Regs.advanceHead_occ (r : R256Regs) : r.advanceHead.occ = (r.occ + 511) % 512 := by
  obtain ⟨hh, ht, hr, hw⟩ := r.toNat_bounds
  rw [R256Regs.occ_eq, r.occ_eq, r.advanceHead_genR, apply_ite BitVec.toNat, flipBit_toNat, r.advanceHead_head,
    adv256_fst_toNat, r.advanceHead_genW, r.advanceHead_tail]
  split <;> omega

theorem R256Regs.available_of_full (hf : r.full = true) : r.available = 255#8 :=
  if_pos hf

/-- Short of FULL, AVAILABLE is the 9-bit occupancy without its top bit. -/
theorem R256Regs.available_toNat_of_not_full (hf : ¬r.full = true) : r.available.toNat = r.occ % 256 := by
  obtain ⟨hh, ht, _⟩ := r.toNat_bounds
  rw [R256Regs.available, if_neg hf, BitVec.toNat_sub, r.occ_eq]
  omega

/-- Settles O58: FULL is occupancy 256; below it AVAILABLE is the occupancy itself. -/
theorem r256AvailableAndFullGiveOccupancy : Obligations.R256AvailableAndFullGiveOccupancy := by
  intro r hle
  by_cases hf : r.full = true
  · have hocc := r.full_iff_occ.mp hf
    rw [if_pos hf, R256Regs.available_of_full hf]
    exact ⟨hocc, fun _ => rfl, fun _ => .inr hocc⟩
  · have hne : r.occ ≠ 256 := mt r.full_iff_occ.mpr hf
    have havail : r.available.toNat = r.occ := by
      rw [R256Regs.available_toNat_of_not_full hf]
      omega
    rw [if_neg hf, ← BitVec.toNat_inj, havail, BitVec.toNat_ofNat]
    omega

/-! ### The state a broken precondition leaves (R106, R107) -/

theorem State.IsR256.empty_iff_occ (h : s.IsR256 r) : s.empty = true ↔ r.occ = 0 := by
  rw [State.empty, h.2]
  exact r.empty_iff_occ

theorem State.IsR256.full_iff_occ (h : s.IsR256 r) : s.full = true ↔ r.occ = 256 := by
  rw [State.full, h.2]
  exact r.full_iff_occ

theorem State.IsR256.empty_eq_false (h : s.IsR256 r) (hocc : r.occ ≠ 0) : s.empty = false :=
  Bool.eq_false_iff.mpr (mt h.empty_iff_occ.mp hocc)

theorem State.IsR256.full_eq_false (h : s.IsR256 r) (hocc : r.occ ≠ 256) : s.full = false :=
  Bool.eq_false_iff.mpr (mt h.full_iff_occ.mp hocc)

/-- Short of FULL, AVAILABLE answers the 9-bit occupancy modulo 256, also where it exceeds the capacity. -/
theorem State.IsR256.exec_available_of_occ (h : s.IsR256 r) (hocc : r.occ ≠ 256) :
    exec .r256Available s = .next (s.answer (BitVec.ofNat 32 (r.occ % 256))) := by
  rw [h.exec_available, zext32, ← BitVec.ofNat_toNat,
    R256Regs.available_toNat_of_not_full (mt r.full_iff_occ.mp hocc)]

/-! What the generation flags and the counter do at the last slot and at any other. -/

theorem flipBit_ne (g : Bit) : g ^^^ 1#1 ≠ g := by
  revert g
  decide

/-- Of two different flags, one is the flip of the other. -/
theorem flipBit_of_ne {a b : Bit} (h : a ≠ b) : b ^^^ 1#1 = a := by
  revert a b
  decide

theorem R256Regs.advanceHead_of_last (hlast : r.head = 255#8) :
    r.advanceHead.genR = r.genR ^^^ 1#1 ∧ r.advanceHead.wrapR = r.wrapR + 1#32 := by
  simp [r.advanceHead_eq, hlast]

theorem R256Regs.advanceHead_of_not_last (hlast : r.head ≠ 255#8) :
    r.advanceHead.genR = r.genR ∧ r.advanceHead.wrapR = r.wrapR := by
  simp [r.advanceHead_eq, hlast]

/-! The states these operations leave, by the fields that R106 and R107 speak of. -/

theorem State.IsR256.exec_read_empty_next (h : s.IsR256 r) (hp : s.cfg.emptyReadPolicy = .unchecked)
    (he : s.empty = true) :
    ∃ t, exec .r256Read s = .next t ∧ t.IsR256 r.advanceHead ∧ t.pv = s.pv.add .readWhileEmpty ∧
      t.lastResponse = some (Response.item s.drawn) :=
  ⟨_, h.exec_read_empty hp he, ⟨h.1, rfl⟩, rfl, List.getLast?_concat⟩

theorem State.IsR256.exec_read_item_next (h : s.IsR256 r) {v : Item} (he : ¬s.empty = true)
    (hv : readSlot s.items s.regs.headSlot = some v) :
    ∃ t, exec .r256Read s = .next t ∧ t.IsR256 r.advanceHead ∧ t.lastResponse = some (Response.item v) :=
  ⟨_, h.exec_read_item he hv, ⟨h.1, rfl⟩, List.getLast?_concat⟩

theorem State.IsR256.exec_write_full_next (h : s.IsR256 r) (w : Item) (hp : s.cfg.overwritePolicy = .unchecked)
    (hf : s.full = true) :
    ∃ t, exec (.r256Write w) s = .next t ∧ t.IsR256 r.advanceTail ∧ t.pv = s.pv.add .writeWhileFull ∧
      t.items = writeSlot s.items r.tail.toNat (itemBits s.cfg.itemW w) :=
  ⟨_, h.exec_write_keeping_oldest w (.inl hp), ⟨h.1, rfl⟩, if_pos hf, rfl⟩

/-- Settles O54: from occupancy 0 the read advance leaves occupancy 511. -/
theorem r256ReadWhileEmpty : Obligations.R256ReadWhileEmpty := by
  intro s r h hp heq hgen
  have he : s.empty = true := h.empty_iff.mpr ⟨heq, hgen⟩
  have hocc : r.advanceHead.occ = 511 := by rw [r.advanceHead_occ, h.empty_iff_occ.mp he]
  obtain ⟨t, hexec, ht, hpv, hresp⟩ := h.exec_read_empty_next hp he
  have havail := ht.exec_available_of_occ (by simp [hocc])
  rw [hocc] at havail
  refine ⟨t, r.advanceHead, hexec, ht, by simp [hpv], hresp, adv256_fst_toNat r.head, rfl, fun hlast => ?_,
    R256Regs.advanceHead_of_not_last, ht.empty_eq_false (by simp [hocc]), ht.full_eq_false (by simp [hocc]), hocc,
    havail⟩
  obtain ⟨hgenR, hwrapR⟩ := R256Regs.advanceHead_of_last hlast
  exact ⟨hgenR ▸ flipBit_ne r.genR, hwrapR⟩

/-- At occupancy 257 a READ returns what is at `head` and leaves occupancy 256, which looks full. -/
theorem State.IsR256.exec_read_of_occ_257 (h : s.IsR256 r) (hocc : r.occ = 257) {v : Item}
    (hv : readSlot s.items r.head.toNat = some v) :
    ∃ u, exec .r256Read s = .next u ∧ u.lastResponse = some (Response.item v) ∧
      u.regs.headSlot = u.regs.tailSlot ∧ exec .r256Isfull u = .next (u.answer 1#32) := by
  have hfull : r.advanceHead.full = true := by rw [R256Regs.full_iff_occ, r.advanceHead_occ, hocc]
  obtain ⟨heq, _⟩ := r.advanceHead.full_iff.mp hfull
  obtain ⟨u, hexec, hu, hresp⟩ := h.exec_read_item_next (by simp [h.empty_iff_occ, hocc]) (h.headSlot_eq ▸ hv)
  refine ⟨u, hexec, hresp, ?slots, ?isfull⟩
  case slots =>
    rw [hu.2]
    exact congrArg BitVec.toNat heq
  case isfull =>
    rw [hu.exec_isfull, hfull]
    rfl

/-- Settles O53: from occupancy 256 the write advance leaves occupancy 257, and the READ after it occupancy 256. -/
theorem r256WriteWhileFull : Obligations.R256WriteWhileFull := by
  intro s r wdata h hp heq hgen
  have hf : s.full = true := h.full_iff.mpr ⟨heq, hgen⟩
  have hocc : r.advanceTail.occ = 257 := by rw [r.advanceTail_occ, h.full_iff_occ.mp hf]
  obtain ⟨t, hexec, ht, hpv, hitems⟩ := h.exec_write_full_next wdata hp hf
  have hslot : readSlot t.items r.head.toNat = some (itemBits s.cfg.itemW wdata) := by
    rw [hitems, readSlot_writeSlot, if_pos (congrArg BitVec.toNat heq)]
  have havail := ht.exec_available_of_occ (by simp [hocc])
  rw [hocc] at havail
  refine ⟨t, r.advanceTail, hexec, ht, by simp [hpv], hslot, ?tail, rfl, rfl, rfl, fun hlast => ?wrap,
    fun hlast => ?stay, ht.full_eq_false (by simp [hocc]), ht.empty_eq_false (by simp [hocc]), hocc, havail,
    ht.exec_read_of_occ_257 hocc hslot⟩
  case tail =>
    rw [heq]
    exact adv256_fst_toNat r.tail
  case wrap => simp [r.advanceTail_eq, ← heq, hlast, flipBit_of_ne hgen]
  case stay => simp [r.advanceTail_eq, ← heq, hlast]

end Sys2Proof.Machine
end

section
/-!
PROOFS. 42_fixed_ring_n.md: the six operations of RN (R120 to R125), what a WRITE while full and a READ while empty
leave (R126, R127), the instance of `SIZE = 1` (R131), and what AVAILABLE says of the occupancy (R132).
-/

namespace Sys2Proof.Machine

/-! ### The shared WRITE and READ as exact next states -/

section
variable {s : State}

theorem writeItem_declined (w : Item) (hp : s.cfg.overwritePolicy = .reject) (hf : s.full = true) :
    writeItem w s = .next (s.respond Response.declined) := by
  rw [writeItem_eq, if_pos ⟨hp, hf⟩]

/-- A WRITE that is not declined stores where `tail` names a slot. -/
theorem writeItem_stored (w : Item) (ht : s.regs.tailSlot < s.cfg.cap)
    (hn : ¬(s.cfg.overwritePolicy = .reject ∧ s.full = true)) : writeItem w s = .next (s.prepared.stored w) := by
  rw [writeItem_eq, if_neg hn, storeItem_eq, State.prepared_tailSlot, s.prepared_frame.1, if_pos ht]

theorem writeItem_keeping_oldest (w : Item) (ht : s.regs.tailSlot < s.cfg.cap)
    (hp : s.cfg.overwritePolicy = .unchecked ∨ ¬s.full = true) :
    writeItem w s = .next { s with
      items := writeSlot s.items s.regs.tailSlot (itemBits s.cfg.itemW w)
      regs := s.regs.advanceTail s.cfg.cap
      pv := if s.full = true then s.pv.add .writeWhileFull else s.pv
      responses := s.responses ++ [Response.written] } := by
  by_cases hf : s.full = true
  · have hunchecked := hp.resolve_right (not_not_intro hf)
    rw [writeItem_stored w ht (by simp [hunchecked]), State.prepared_of_unchecked hunchecked hf, if_pos hf]
    rfl
  · rw [writeItem_stored w ht (by simp [hf]), State.prepared_of_not_full hf, if_neg hf]
    rfl

theorem writeItem_dropping_oldest (w : Item) (ht : s.regs.tailSlot < s.cfg.cap)
    (hp : s.cfg.overwritePolicy = .overwriteOldest) (hf : s.full = true) :
    writeItem w s = .next { s with
      items := writeSlot s.items s.regs.tailSlot (itemBits s.cfg.itemW w)
      regs := (s.regs.advanceHead s.cfg.cap).advanceTail s.cfg.cap
      responses := s.responses ++ [Response.written] } := by
  rw [writeItem_stored w ht (by simp [hp]), State.prepared_of_overwriteOldest hp hf, State.stored,
    State.advanceHead_regs, Regs.advanceHead_tailSlot]
  rfl

theorem readItem_declined (hp : s.cfg.emptyReadPolicy = .reject) (he : s.empty = true) :
    readItem s = .next (s.respond Response.declined) := by
  rw [readItem_eq, if_pos ⟨hp, he⟩]

theorem readItem_empty (hp : s.cfg.emptyReadPolicy = .unchecked) (he : s.empty = true) :
    readItem s = .next { s with
      regs := s.regs.advanceHead s.cfg.cap
      pv := s.pv.add .readWhileEmpty
      draws := s.draws + 1
      responses := s.responses ++ [Response.item s.drawn] } := by
  rw [readItem_eq, if_neg (by simp [hp]), if_pos (.inl he), State.taken_of_empty he, State.marked_of_empty he]
  rfl

theorem readItem_item {v : Item} (hh : s.regs.headSlot < s.cfg.cap) (he : ¬s.empty = true)
    (hv : readSlot s.items s.regs.headSlot = some v) :
    readItem s = .next { s with
      regs := s.regs.advanceHead s.cfg.cap
      responses := s.responses ++ [Response.item v] } := by
  rw [readItem_eq, if_neg (by simp [he]), if_pos (.inr hh), State.taken_of_item he hv, State.marked_of_item he hv]
  rfl

theorem readItem_unwritten (hh : s.regs.headSlot < s.cfg.cap) (he : ¬s.empty = true)
    (hv : readSlot s.items s.regs.headSlot = none) :
    readItem s = .next { s with
      regs := s.regs.advanceHead s.cfg.cap
      pv := s.pv.add .readUnwritten
      draws := s.draws + 1
      responses := s.responses ++ [Response.item s.drawn] } := by
  rw [readItem_eq, if_neg (by simp [he]), if_pos (.inr hh), State.taken_of_unwritten he hv,
    State.marked_of_unwritten he hv]
  rfl

end

variable {s : State} {size : Nat} {mode : AvailableNMode} {r : RNRegs} {cmd : Cmd}

/-! ### A state of RN through its registers -/

theorem State.IsRN.decode_eq (h : s.IsRN size mode r) (hrsv : cmdRsv cmd = 0) (wdata : Nat) :
    decode s.cfg cmd wdata = decodeOp (.rn size mode) (cmdOp cmd) (itemBits s.cfg.itemW wdata) := by
  rw [decode_of_rsv_zero wdata hrsv, h.1]

theorem State.IsRN.empty_iff (h : s.IsRN size mode r) : s.empty = true ↔ r.head = r.tail := by
  rw [State.empty, h.2, ← BitVec.toNat_inj]
  exact r.empty_iff

theorem State.IsRN.full_eq (h : s.IsRN size mode r) : s.full = r.full size := by
  rw [State.full, h.2, h.cap]
  rfl

theorem State.IsRN.full_iff (h : s.IsRN size mode r) :
    s.full = true ↔ r.tail.toNat = (r.head.toNat + size - 1) % size := by
  rw [h.full_eq, r.full_iff]

theorem State.IsRN.headSlot_eq (h : s.IsRN size mode r) : s.regs.headSlot = r.head.toNat := by
  rw [h.2]
  rfl

theorem State.IsRN.tailSlot_eq (h : s.IsRN size mode r) : s.regs.tailSlot = r.tail.toNat := by
  rw [h.2]
  rfl

theorem State.IsRN.headSlot_lt (h : s.IsRN size mode r) (hh : r.head.toNat < size) : s.regs.headSlot < s.cfg.cap := by
  rwa [h.headSlot_eq, h.cap]

theorem State.IsRN.tailSlot_lt (h : s.IsRN size mode r) (ht : r.tail.toNat < size) : s.regs.tailSlot < s.cfg.cap := by
  rwa [h.tailSlot_eq, h.cap]

theorem State.IsRN.advanceHead_regs (h : s.IsRN size mode r) :
    s.regs.advanceHead s.cfg.cap = .rn (r.advanceHead size) := by
  rw [h.2, h.cap]
  rfl

theorem State.IsRN.advanceTail_regs (h : s.IsRN size mode r) :
    s.regs.advanceTail s.cfg.cap = .rn (r.advanceTail size) := by
  rw [h.2, h.cap]
  rfl

/-! ### The advances as records (40_index_and_detector.md R84, R85) -/

theorem advN_fst (size : Nat) (i : Index16) : (advN size i).1 = if i.toNat + 1 = size then 0#16 else i + 1#16 :=
  apply_ite Prod.fst _ _ _

theorem RNRegs.advanceHead_eq (size : Nat) (r : RNRegs) :
    r.advanceHead size = { r with
      head := if r.head.toNat + 1 = size then 0#16 else r.head + 1#16
      wrapR := if r.head.toNat + 1 = size then r.wrapR + 1#32 else r.wrapR } := by
  rw [← advN_fst, ← r.advanceHead_wrapR]
  rfl

/-! ### The queries (R120 to R123) -/

theorem State.IsRN.exec_isempty (h : s.IsRN size mode r) :
    exec .rnIsempty s = .next (s.answer (boolValue r.empty)) := by
  simp [exec, execRNIsempty, State.asRN_eq.mpr h]

theorem State.IsRN.exec_isfull (h : s.IsRN size mode r) :
    exec .rnIsfull s = .next (s.answer (boolValue (r.full size))) := by
  simp [exec, execRNIsfull, State.asRN_eq.mpr h]

theorem State.IsRN.exec_available (h : s.IsRN size mode r) :
    exec .rnAvailable s = .next (s.answer (zext32 (r.available size mode))) := by
  simp [exec, execRNAvailable, State.asRN_eq.mpr h]

theorem State.IsRN.exec_count (h : s.IsRN size mode r) : exec .rnCount s = .next (s.answer (r.count size)) := by
  simp [exec, execRNCount, State.asRN_eq.mpr h]

/-- Narrowing to 16 bits and extending to 32 is the remainder modulo 65536. -/
theorem zext32_ofInt16 (x : Int) : zext32 (BitVec.ofInt 16 x) = BitVec.ofInt 32 (x % 65536) := by
  apply BitVec.eq_of_toNat_eq
  simp only [zext32, BitVec.toNat_setWidth, BitVec.toNat_ofInt]
  omega

/-- A remainder by an admitted `SIZE` fits the 16 bits of AVAILABLE. -/
theorem emod_size_bounds (x : Int) (hpos : 1 ≤ size) (hmax : size ≤ 32768) :
    0 ≤ x % size ∧ x % size < 65536 := by
  have hnonneg := Int.emod_nonneg x (b := size) (by omega)
  have hlt := Int.emod_lt_of_pos x (b := size) (by omega)
  omega

theorem RNRegs.zext32_available_corrected (r : RNRegs) (hpos : 1 ≤ size) (hmax : size ≤ 32768) :
    zext32 (r.available size .corrected) =
      BitVec.ofInt 32 (((r.tail.toNat : Int) - r.head.toNat + size) % size) := by
  obtain ⟨hnonneg, hlt⟩ := emod_size_bounds ((r.tail.toNat : Int) - r.head.toNat + size) hpos hmax
  rw [RNRegs.available, zext32_ofInt16, Int.emod_eq_of_lt hnonneg hlt]

/-- `VALUE` has 32 bits, so COUNT is modulo `2^32`. -/
theorem RNRegs.count_eq (size : Nat) (r : RNRegs) :
    r.count size = BitVec.ofNat 32 ((r.wrapR.toNat * size + r.head.toNat) % 2 ^ 32) := by
  apply BitVec.eq_of_toNat_eq
  rw [RNRegs.count, BitVec.toNat_ofNat, BitVec.toNat_ofNat, Nat.mod_mod]

/-- Settles O18: the query answers `RNRegs.empty`. -/
theorem rnIsemptyResult : Obligations.RNIsemptyResult := by
  intro s size mode r h
  refine ⟨h.decode_eq rfl, ?_⟩
  rw [h.exec_isempty, boolValue_eq]
  simp only [r.empty_iff, BitVec.toNat_inj]
  rfl

/-- Settles O19: the query answers `RNRegs.full`, read in exact integers. -/
theorem rnIsfullResult : Obligations.RNIsfullResult := by
  intro s size mode r h hpos
  refine ⟨h.decode_eq rfl, ?_⟩
  rw [h.exec_isfull, boolValue_eq]
  simp only [RNRegs.full_iff_int hpos]
  rfl

/-- Settles O20: BUG_COMPATIBLE is narrowed modulo `2^16`; the CORRECTED result is below `SIZE`, so nothing is lost. -/
theorem rnAvailableResult : Obligations.RNAvailableResult := by
  intro s size mode r h hpos hmax
  refine ⟨h.decode_eq rfl, ?bugCompatible, ?corrected⟩
  case bugCompatible =>
    rintro rfl
    rw [h.exec_available, RNRegs.available, zext32_ofInt16]
    rfl
  case corrected =>
    rintro rfl
    rw [h.exec_available, r.zext32_available_corrected hpos hmax]
    rfl

/-- Settles O21: the query answers `RNRegs.count`, reduced modulo `2^32`. -/
theorem rnCountResult : Obligations.RNCountResult := by
  intro s size mode r h
  refine ⟨h.decode_eq rfl, ?_⟩
  rw [h.exec_count, r.count_eq]
  rfl

/-! ### WRITE (R124) -/

theorem State.IsRN.exec_write_declined (h : s.IsRN size mode r) (w : Item) (hp : s.cfg.overwritePolicy = .reject)
    (hf : s.full = true) : exec (.rnWrite w) s = .next (s.respond Response.declined) := by
  rw [exec_write_rn h, writeItem_declined w hp hf]

/-- R124 where no item is dropped: under `UNCHECKED`, or not full. -/
theorem State.IsRN.exec_write_keeping_oldest (h : s.IsRN size mode r) (w : Item) (ht : r.tail.toNat < size)
    (hp : s.cfg.overwritePolicy = .unchecked ∨ ¬s.full = true) :
    exec (.rnWrite w) s = .next { s with
      items := writeSlot s.items r.tail.toNat (itemBits s.cfg.itemW w)
      regs := .rn (r.advanceTail size)
      pv := if s.full = true then s.pv.add .writeWhileFull else s.pv
      responses := s.responses ++ [Response.written] } := by
  rw [exec_write_rn h, writeItem_keeping_oldest w (h.tailSlot_lt ht) hp, h.tailSlot_eq, h.advanceTail_regs]

/-- R124 under `OVERWRITE_OLDEST` when full: the oldest item is dropped first. -/
theorem State.IsRN.exec_write_dropping_oldest (h : s.IsRN size mode r) (w : Item) (ht : r.tail.toNat < size)
    (hp : s.cfg.overwritePolicy = .overwriteOldest) (hf : s.full = true) :
    exec (.rnWrite w) s = .next { s with
      items := writeSlot s.items r.tail.toNat (itemBits s.cfg.itemW w)
      regs := .rn ((r.advanceHead size).advanceTail size)
      responses := s.responses ++ [Response.written] } := by
  rw [exec_write_rn h, writeItem_dropping_oldest w (h.tailSlot_lt ht) hp hf, h.tailSlot_eq, h.advanceHead_regs, h.cap]
  rfl

/-- Settles O25: one clause per part of R124, each an outcome of the shared WRITE. -/
theorem rnWriteResult : Obligations.RNWriteResult := by
  intro s size mode r wdata h ht
  simp only [ne_eq, ← h.full_iff]
  refine ⟨h.decode_eq rfl wdata, fun hp => ?keeping, fun hp hf => ?dropping, h.exec_write_declined wdata⟩
  case keeping =>
    rw [h.exec_write_keeping_oldest wdata ht hp, r.advanceTail_eq, advN_fst]
    rfl
  case dropping =>
    rw [h.exec_write_dropping_oldest wdata ht hp hf, RNRegs.advanceTail_eq, advN_fst, r.advanceHead_eq]
    rfl

/-! ### READ (R125) -/

theorem State.IsRN.exec_read_declined (h : s.IsRN size mode r) (hp : s.cfg.emptyReadPolicy = .reject)
    (he : s.empty = true) : exec .rnRead s = .next (s.respond Response.declined) := by
  rw [exec_read_rn h, readItem_declined hp he]

/-- R125 while empty under `UNCHECKED`. -/
theorem State.IsRN.exec_read_empty (h : s.IsRN size mode r) (hp : s.cfg.emptyReadPolicy = .unchecked)
    (he : s.empty = true) :
    exec .rnRead s = .next { s with
      regs := .rn (r.advanceHead size)
      pv := s.pv.add .readWhileEmpty
      draws := s.draws + 1
      responses := s.responses ++ [Response.item s.drawn] } := by
  rw [exec_read_rn h, readItem_empty hp he, h.advanceHead_regs]

/-- Settles O26: one clause per part of R125, each an outcome of the shared READ. -/
theorem rnReadResult : Obligations.RNReadResult := by
  intro s size mode r r' h hh hr'
  rw [← r.advanceHead_eq] at hr'
  subst hr'
  have hslot := h.headSlot_lt hh
  rw [ne_eq, ← h.empty_iff, ← h.headSlot_eq, exec_read_rn h, ← h.advanceHead_regs]
  exact ⟨h.decode_eq rfl, readItem_declined, readItem_empty, fun _ => readItem_item hslot, readItem_unwritten hslot⟩

/-! ### The occupancy (40_index_and_detector.md R92) and AVAILABLE (R132) -/

theorem RNRegs.available_corrected_toNat (r : RNRegs) (hpos : 1 ≤ size) (hmax : size ≤ 32768) :
    (r.available size .corrected).toNat = r.occ size := by
  obtain ⟨hnonneg, hlt⟩ := emod_size_bounds ((r.tail.toNat : Int) - r.head.toNat) hpos hmax
  rw [RNRegs.available, RNRegs.occ, Int.add_emod_right, BitVec.toNat_ofInt]
  exact congrArg Int.toNat (Int.emod_eq_of_lt hnonneg hlt)

/-- The 16-bit difference of two indices, in natural numbers. -/
theorem RNRegs.available_bugCompatible_toNat (size : Nat) (r : RNRegs) :
    (r.available size .bugCompatible).toNat =
      if r.head.toNat ≤ r.tail.toNat then r.tail.toNat - r.head.toNat else r.tail.toNat + 65536 - r.head.toNat := by
  have hh := r.head.isLt
  have ht := r.tail.isLt
  rw [RNRegs.available, BitVec.toNat_ofInt]
  split <;> omega

/-- Settles O59: where `tail < head` the two modes differ by `2^16 - SIZE`, and nowhere else. -/
theorem rnAvailableGivesOccupancy : Obligations.RNAvailableGivesOccupancy := by
  intro size r hpos hmax hh ht
  refine ⟨r.available_corrected_toNat hpos hmax, ?_⟩
  rw [RNRegs.occ_eq hh ht, r.available_bugCompatible_toNat]
  by_cases hle : r.head.toNat ≤ r.tail.toNat
  · have hlt : r.tail.toNat - r.head.toNat < size := by omega
    simp only [if_pos hle, if_pos hlt]
    exact ⟨fun hgt => absurd hle (Nat.not_le_of_lt hgt), fun _ => hlt, trivial⟩
  · have hge : ¬r.tail.toNat + 65536 - r.head.toNat < size := by omega
    simp only [if_neg hle, if_neg hge]
    omega

theorem RNRegs.available_of_empty (he : r.head = r.tail) : r.available size mode = 0#16 := by
  cases mode with
  | bugCompatible => simp [RNRegs.available, he]
  | corrected => simp [RNRegs.available, he]

/-! ### The state a broken precondition leaves (R126, R127) -/

theorem State.IsRN.exec_available_of_empty (h : s.IsRN size mode r) (he : r.head = r.tail) :
    exec .rnAvailable s = .next (s.answer 0#32) := by
  rw [h.exec_available, RNRegs.available_of_empty he]
  rfl

theorem State.IsRN.exec_isempty_of_empty (h : s.IsRN size mode r) (he : r.head = r.tail) :
    exec .rnIsempty s = .next (s.answer 1#32) := by
  rw [h.exec_isempty, r.empty_iff.mpr (congrArg BitVec.toNat he)]
  rfl

theorem State.IsRN.exec_write_unchecked_next (h : s.IsRN size mode r) (w : Item) (ht : r.tail.toNat < size)
    (hp : s.cfg.overwritePolicy = .unchecked) (hf : s.full = true) :
    ∃ t, exec (.rnWrite w) s = .next t ∧ t.IsRN size mode (r.advanceTail size) ∧ t.pv = s.pv.add .writeWhileFull ∧
      readSlot t.items r.tail.toNat = some (itemBits s.cfg.itemW w) :=
  ⟨_, h.exec_write_keeping_oldest w ht (.inl hp), ⟨h.1, rfl⟩, if_pos hf, by simp [readSlot_writeSlot]⟩

theorem State.IsRN.exec_read_empty_next (h : s.IsRN size mode r) (hp : s.cfg.emptyReadPolicy = .unchecked)
    (he : s.empty = true) :
    ∃ t, exec .rnRead s = .next t ∧ t.IsRN size mode (r.advanceHead size) ∧ t.pv = s.pv.add .readWhileEmpty ∧
      t.lastResponse = some (Response.item s.drawn) :=
  ⟨_, h.exec_read_empty hp he, ⟨h.1, rfl⟩, rfl, List.getLast?_concat⟩

/-- For `SIZE ≥ 2` an empty buffer is not full (40_index_and_detector.md R90). -/
theorem State.IsRN.not_full_of_empty (h : s.IsRN size mode r) (hsize : 2 ≤ size) (hh : r.head.toNat < size)
    (he : s.empty = true) : s.full = false := by
  rw [State.empty, h.2] at he
  rw [h.full_eq]
  exact Bool.eq_false_iff.mpr fun hf => RNRegs.not_empty_and_full hsize hh ⟨he, hf⟩

theorem State.IsRN.not_empty_of_full (h : s.IsRN size mode r) (hsize : 2 ≤ size) (hh : r.head.toNat < size)
    (hf : s.full = true) : s.empty = false :=
  Bool.eq_false_iff.mpr fun he => absurd hf (by simp [h.not_full_of_empty hsize hh he])

/-- From full, one more advance takes `tail` onto `head`. -/
theorem RNRegs.advanceTail_tail_of_full (hmax : size ≤ 32768) (hh : r.head.toNat < size) (ht : r.tail.toNat < size)
    (hf : r.full size = true) : (r.advanceTail size).tail = r.head := by
  apply BitVec.eq_of_toNat_eq
  rw [r.advanceTail_eq, advN_fst_toNat ht hmax]
  exact (RNRegs.full_iff_succ (by omega) hh ht).mp hf

/-- From empty, one more advance of `head` leaves `tail` in the slot before it. -/
theorem RNRegs.advanceHead_full_of_empty (hmax : size ≤ 32768) (hh : r.head.toNat < size) (he : r.head = r.tail) :
    (r.advanceHead size).full size = true := by
  have hhead := advN_fst_toNat hh hmax
  have hlt := Nat.mod_lt (r.head.toNat + 1) (show 0 < size by omega)
  rw [RNRegs.full_iff_succ (by omega) (by rwa [r.advanceHead_head, hhead]) (by rwa [r.advanceHead_tail, ← he]),
    r.advanceHead_head, hhead, r.advanceHead_tail, he]

/-- FULL is the usable capacity of RN (40_index_and_detector.md R92). -/
theorem RNRegs.occ_of_full (hpos : 1 ≤ size) (hh : r.head.toNat < size) (ht : r.tail.toNat < size)
    (hf : r.full size = true) : r.occ size = size - 1 := by
  rw [RNRegs.full_iff_pred hpos hh] at hf
  rw [RNRegs.occ_eq hh ht]
  split at hf <;> split <;> omega

/-- From empty, one more advance of `head` makes the BUG_COMPATIBLE difference -1 modulo `2^16`, except on the wrap. -/
theorem RNRegs.available_bugCompatible_of_advanceHead_empty (hmax : size ≤ 32768) (hh : r.head.toNat < size)
    (he : r.head = r.tail) :
    ((r.advanceHead size).available size .bugCompatible).toNat =
      if r.head.toNat < size - 1 then 65535 else size - 1 := by
  rw [RNRegs.available_bugCompatible_toNat, r.advanceHead_head, advN_fst_toNat hh hmax, succ_mod hh,
    r.advanceHead_tail, ← he]
  by_cases hlast : r.head.toNat + 1 = size
  · rw [if_pos hlast, if_pos (Nat.zero_le _), if_neg (by omega), Nat.sub_zero]
    omega
  · rw [if_neg hlast, if_neg (by omega), if_pos (by omega)]
    omega

/-- Settles O55: `tail` advances onto `head`, which is EMPTY, and for `SIZE ≥ 2` not FULL. -/
theorem rnWriteWhileFull : Obligations.RNWriteWhileFull := by
  intro s size mode r wdata h hsize hmax hh hfull hp
  have hf : s.full = true := h.full_iff.mpr hfull
  have ht : r.tail.toNat < size := hfull ▸ Nat.mod_lt _ (by omega)
  have htail := RNRegs.advanceTail_tail_of_full hmax hh ht (h.full_eq ▸ hf)
  obtain ⟨t, hexec, hrn, hpv, hslot⟩ := h.exec_write_unchecked_next wdata ht hp hf
  have he : t.empty = true := hrn.empty_iff.mpr htail.symm
  exact ⟨t, r.advanceTail size, hexec, hrn, by simp [hpv], hslot, rfl, htail, he, hrn.not_full_of_empty hsize hh he,
    hrn.exec_available_of_empty htail.symm, hrn.exec_isempty_of_empty htail.symm⟩

/-- Settles O56: `head` advances off `tail`, which is FULL, and for `SIZE ≥ 2` not EMPTY. -/
theorem rnReadWhileEmpty : Obligations.RNReadWhileEmpty := by
  intro s size mode r h hsize hmax hh he hp
  have hhead := advN_fst_toNat hh hmax
  have hfull := RNRegs.advanceHead_full_of_empty hmax hh he
  have hlt : (r.advanceHead size).head.toNat < size := hhead ▸ Nat.mod_lt _ (by omega)
  obtain ⟨t, hexec, hrn, hpv, hresp⟩ := h.exec_read_empty_next hp (h.empty_iff.mpr he)
  have hf : t.full = true := hrn.full_eq ▸ hfull
  refine ⟨t, r.advanceHead size, ((r.advanceHead size).available size mode).toNat, hexec, hrn, by simp [hpv], hresp,
    hhead, rfl, ?wrapR, hrn.not_empty_of_full hsize hlt hf, hf, ?available, ?corrected, ?bugCompatible⟩
  case wrapR =>
    have hlast : r.head.toNat + 1 = size ↔ r.head.toNat = size - 1 := by omega
    simp only [r.advanceHead_wrapR, hlast]
  case available => rw [hrn.exec_available, BitVec.ofNat_toNat, zext32]
  case corrected =>
    rintro rfl
    rw [RNRegs.available_corrected_toNat _ (by omega) hmax]
    exact RNRegs.occ_of_full (by omega) hlt (he ▸ hh) hfull
  case bugCompatible =>
    rintro rfl
    exact RNRegs.available_bugCompatible_of_advanceHead_empty hmax hh he

/-! ### The instance of `SIZE = 1` (R131) -/

/-- 10_state.md R31 leaves one value for each index. -/
theorem State.Inv.indices_of_size_one (hs : s.Inv) (h : s.IsRN 1 mode r) : r.head = 0#16 ∧ r.tail = 0#16 := by
  have hh := hs.headLt
  have ht := hs.tailLt
  rw [h.headSlot_eq, h.cap, Nat.lt_one_iff] at hh
  rw [h.tailSlot_eq, h.cap, Nat.lt_one_iff] at ht
  exact ⟨BitVec.eq_of_toNat_eq hh, BitVec.eq_of_toNat_eq ht⟩

/-- The only slot is the last one, so every advance wraps to it. -/
theorem RNRegs.advance_of_size_one (hh : r.head = 0#16) (ht : r.tail = 0#16) :
    r.advanceHead 1 = { r with wrapR := r.wrapR + 1#32 } ∧ r.advanceTail 1 = r := by
  obtain ⟨head, tail, wrapR⟩ := r
  subst hh ht
  exact ⟨rfl, rfl⟩

/-- Settles O57: both indices are 0, so the state is EMPTY and FULL at once, and an advance moves `wrapR` only. -/
theorem sizeOneInstance : Obligations.SizeOneInstance := by
  intro s mode r wdata hs h
  obtain ⟨hh, ht⟩ := hs.indices_of_size_one h
  obtain ⟨hadvHead, hadvTail⟩ := RNRegs.advance_of_size_one hh ht
  have heq : r.head = r.tail := hh.trans ht.symm
  have htlt : r.tail.toNat < 1 := by simp [ht]
  have he : s.empty = true := h.empty_iff.mpr heq
  have hf : r.full 1 = true := (RNRegs.empty_and_full_of_size_one (heq ▸ htlt) htlt).2
  have hsf : s.full = true := h.full_eq ▸ hf
  refine ⟨hh, ht, h.exec_isempty_of_empty heq, ?isfull, h.exec_available_of_empty heq, fun hp => ?unchecked,
    fun hp => ?overwriteOldest, fun hp => h.exec_write_declined wdata hp hsf, fun hp => ?read,
    fun hp => h.exec_read_declined hp he⟩
  case isfull =>
    rw [h.exec_isfull, hf]
    rfl
  case unchecked =>
    obtain ⟨t, hexec, hrn, hpv, hslot⟩ := h.exec_write_unchecked_next wdata htlt hp hsf
    rw [hadvTail] at hrn
    rw [ht] at hslot
    exact ⟨t, hexec, hrn.2.trans h.2.symm, hslot, by simp [hpv]⟩
  case overwriteOldest =>
    refine ⟨_, h.exec_write_dropping_oldest wdata htlt hp hsf, ?_, by simp [readSlot_writeSlot, ht, itemBits], rfl⟩
    rw [hadvHead]
    exact congrArg Regs.rn (RNRegs.advance_of_size_one (r := { r with wrapR := r.wrapR + 1#32 }) hh ht).2
  case read =>
    obtain ⟨t, hexec, hrn, hpv, hresp⟩ := h.exec_read_empty_next hp he
    exact ⟨t, hexec, hadvHead ▸ hrn.2, by simp [hpv], hresp⟩

end Sys2Proof.Machine
end

section
/-!
PROOFS. 60_exceptions.md: no operation raises an exception (R160), and which operation marks which reason (R161).
-/

namespace Sys2Proof.Machine

variable {s t : State} {i : Instr}

/-! ### No operation faults, and none is refused in its own variant (R160) -/

/-- The only fault of WRITE is a `tail` that names no slot. -/
theorem writeItem_next (w : Item) (ht : s.regs.tailSlot < s.cfg.cap) : ∃ t, writeItem w s = .next t := by
  by_cases hd : s.cfg.overwritePolicy = .reject ∧ s.full = true
  · exact ⟨_, writeItem_declined w hd.1 hd.2⟩
  · exact ⟨_, writeItem_stored w ht hd⟩

/-- The only fault of READ is a `head` that names no slot. -/
theorem readItem_next (hh : s.regs.headSlot < s.cfg.cap) : ∃ t, readItem s = .next t := by
  by_cases hd : s.cfg.emptyReadPolicy = .reject ∧ s.empty = true
  · exact ⟨_, readItem_declined hd.1 hd.2⟩
  · exact ⟨_, by rw [readItem_eq, if_neg hd, if_pos (.inr hh)]⟩

/-- Every index of R256 names a slot, so its six instructions complete in every state of it. -/
theorem State.IsR256.exec_next {r : R256Regs} (h : s.IsR256 r) (hi : i.ofVariant .r256 = true) :
    ∃ t, exec i s = .next t := by
  cases i with
  | r256Isempty => exact ⟨_, h.exec_isempty⟩
  | r256Isfull => exact ⟨_, h.exec_isfull⟩
  | r256Available => exact ⟨_, h.exec_available⟩
  | r256Count => exact ⟨_, h.exec_count⟩
  | r256Write w => exact exec_write_r256 h w ▸ writeItem_next w h.tailSlot_lt
  | r256Read => exact exec_read_r256 h ▸ readItem_next h.headSlot_lt
  | _ => simp [Instr.ofVariant] at hi

/-- The six instructions of RN complete where both indices name a slot. -/
theorem State.IsRN.exec_next {size : Nat} {mode : AvailableNMode} {r : RNRegs} (h : s.IsRN size mode r)
    (hh : s.regs.headSlot < s.cfg.cap) (ht : s.regs.tailSlot < s.cfg.cap) (hi : i.ofVariant (.rn size mode) = true) :
    ∃ t, exec i s = .next t := by
  cases i with
  | rnIsempty => exact ⟨_, h.exec_isempty⟩
  | rnIsfull => exact ⟨_, h.exec_isfull⟩
  | rnAvailable => exact ⟨_, h.exec_available⟩
  | rnCount => exact ⟨_, h.exec_count⟩
  | rnWrite w => exact exec_write_rn h w ▸ writeItem_next w ht
  | rnRead => exact exec_read_rn h ▸ readItem_next hh
  | _ => simp [Instr.ofVariant] at hi

/-- From a state of the invariant every instruction of the instance's variant answers a next state. -/
theorem State.Inv.exec_next (hs : s.Inv) (hi : i.ofVariant s.cfg.variant = true) : ∃ t, exec i s = .next t := by
  rcases hs.regs_cases with ⟨r, h⟩ | ⟨size, mode, r, h⟩
  · exact h.exec_next (h.1 ▸ hi)
  · exact h.exec_next hs.headLt hs.tailLt (h.1 ▸ hi)

/-! ### A step from a state of the invariant -/

/-- The opcode map holds no row of the other variant (30_encoding.md R63). -/
theorem decodeOp_ofVariant {v : Variant} {op : BitVec 3} {item : Item} (h : decodeOp v op item = .ok i) :
    i.ofVariant v = true := by
  unfold decodeOp at h
  split at h <;> cases h <;> rfl

theorem decode_ofVariant {cfg : Config} {cmd : Cmd} {wdata : Nat} (h : decode cfg cmd wdata = .ok i) :
    i.ofVariant cfg.variant = true := by
  by_cases hrsv : cmdRsv cmd = 0
  · exact decodeOp_ofVariant (decode_of_rsv_zero wdata hrsv ▸ h)
  · rw [decode_of_rsv_ne_zero wdata hrsv] at h
    cases h

theorem step_of_decode_ok {cmd : Cmd} {wdata : Nat} {rest : List HostEvent} (hwf : s.cfg.wf = true)
    (hp : s.port = .command cmd wdata :: rest) (hd : decode s.cfg cmd wdata = .ok i) :
    step s = exec i { s with port := rest } := by
  simp [step, fetch, hwf, hp, hd]

theorem step_of_empty_port (hwf : s.cfg.wf = true) (hp : s.port = []) : step s = .next s := by
  simp [step, fetch, hwf, hp]

/-- The invariant says nothing of the port. -/
theorem State.Inv.with_port (hs : s.Inv) (port : List HostEvent) : State.Inv { s with port := port } :=
  ⟨hs.cfgWf, hs.variant, hs.headLt, hs.tailLt, hs.memoryWf⟩

/-- Settles O37: with no event, a reset, or a word that decodes, the step completes; any other word is above 5. -/
theorem stepNeverFaults : Obligations.StepNeverFaults := by
  intro s hs
  match hp : s.port with
  | [] => exact .inl ⟨s, step_of_empty_port hs.cfgWf hp⟩
  | .reset :: rest => exact .inl ⟨_, step_of_reset_port hs.cfgWf hp⟩
  | .command cmd wdata :: rest =>
    cases hd : decode s.cfg cmd wdata with
    | ok i =>
      rw [step_of_decode_ok hs.cfgWf hp hd]
      exact .inl ((hs.with_port rest).exec_next (decode_ofVariant hd))
    | error e =>
      have hgt : 5 < cmd.toNat := by
        by_contra hle
        obtain ⟨i, hi⟩ := (decode_ok_iff s.cfg cmd wdata).mpr (Nat.le_of_not_lt hle)
        simp [hd] at hi
      exact .inr ⟨step_of_decode_error hs.cfgWf hp hd, cmd, wdata, rest, rfl, hgt⟩

/-! ### The reasons of `PV` (R161) -/

/-- WRITE adds a reason only where it stores over a full buffer unchecked. -/
theorem writeItem_pv {w : Item} (h : writeItem w s = .next t) :
    t.pv = if s.cfg.overwritePolicy = .unchecked ∧ s.full = true then s.pv.add .writeWhileFull else s.pv := by
  rcases writeItem_cases h with ⟨hp, _, rfl⟩ | ⟨hn, _, rfl⟩
  · simp [hp]
  · change s.prepared.pv = _
    rcases State.prepared_cases hn with ⟨hf, hp, hprep⟩ | ⟨_, hp, hprep⟩ | ⟨hf, hprep⟩
    · simp [hprep, hp, hf]
    · simp [hprep, hp]
    · simp [hprep, hf]

/-- READ adds `ReadWhileEmpty` where it draws from an empty buffer, `ReadUnwritten` where `head` names a slot with no
value, and otherwise nothing. -/
theorem readItem_pv (h : readItem s = .next t) :
    t.pv =
      if s.empty = true then
        if s.cfg.emptyReadPolicy = .unchecked then s.pv.add .readWhileEmpty else s.pv
      else if readSlot s.items s.regs.headSlot = none then s.pv.add .readUnwritten
      else s.pv := by
  rcases readItem_cases h with ⟨hp, he, rfl⟩ | ⟨hn, _, rfl⟩
  · simp [hp, he]
  · change s.marked.pv = _
    by_cases he : s.empty = true
    · have hp : s.cfg.emptyReadPolicy = .unchecked := by
        cases hp : s.cfg.emptyReadPolicy with
        | unchecked => rfl
        | reject => exact absurd ⟨hp, he⟩ hn
      simp [State.marked_of_empty he, he, hp]
    · cases hv : readSlot s.items s.regs.headSlot with
      | none => simp [State.marked_of_unwritten he hv, he]
      | some v => simp [State.marked_of_item he hv, he]

/-- Settles O43: a query leaves `PV`, and the reasons WRITE and READ add are `writeItem_pv` and `readItem_pv`. -/
theorem reasonsMarked : Obligations.ReasonsMarked := by
  intro i s t h
  rcases exec_cases h with ⟨v, hv, rfl⟩ | ⟨w, hi, hx⟩ | ⟨hi, hx⟩
  · obtain ⟨hw, hr⟩ := not_transfer_of_queryValue hv
    simp [hw, hr]
  · obtain ⟨hw, hr⟩ : i.isWrite = true ∧ i.isRead = false := by rcases hi with rfl | rfl <;> exact ⟨rfl, rfl⟩
    rw [writeItem_pv hx]
    split_ifs with hm <;> simp [hw, hr, hm]
  · obtain ⟨hw, hr⟩ : i.isWrite = false ∧ i.isRead = true := by rcases hi with rfl | rfl <;> exact ⟨rfl, rfl⟩
    rw [readItem_pv hx]
    split_ifs with he hp hv
    · simp [hw, hr, he, hp]
    · simp [hw, hr, he, hp]
    · simp [hw, hr, he, hv]
    · simp [hw, hr, he, hv]

end Sys2Proof.Machine
end

section
/-!
PROOFS. 30_encoding.md: the encoder and the decoder undo each other (R61 to R64), and the assembler's lines are commands
the block has (R68).
-/

namespace Sys2Proof.Machine

variable {cfg : Config} {v : Variant} {i : Instr} {op : BitVec 3} {item : Item} {cmd : Cmd} {wdata : Nat}

/-! ### Decoding what the encoder gives -/

theorem cmdRsv_encodeCmd (i : Instr) : cmdRsv (encodeCmd i) = 0 := by
  rw [cmdRsv_eq_zero_iff]
  cases i <;> simp [encodeCmd]

/-- Each row's `OP` selects that row in its own variant. -/
theorem decodeOp_encode (h : i.ofVariant v = true) :
    decodeOp v (cmdOp (encodeCmd i)) (encodeWdata i) = .ok i := by
  cases v with
  | r256 =>
    cases i with
    | r256Isempty | r256Isfull | r256Available | r256Count | r256Write _ | r256Read => rfl
    | _ => simp [Instr.ofVariant] at h
  | rn _ _ =>
    cases i with
    | rnIsempty | rnIsfull | rnAvailable | rnCount | rnWrite _ | rnRead => rfl
    | _ => simp [Instr.ofVariant] at h

/-- An item of `ITEM_W` bits loses none of them on the wires of `WDATA`. -/
theorem itemBits_encodeWdata {itemW : Nat} (h : i.itemFits itemW = true) :
    itemBits itemW (encodeWdata i) = encodeWdata i := by
  cases i with
  | r256Write _ | rnWrite _ => exact Nat.mod_eq_of_lt (of_decide_eq_true h)
  | _ => exact Nat.zero_mod _

theorem instrWf_iff (cfg : Config) (i : Instr) :
    i.wf cfg = true ↔ i.ofVariant cfg.variant = true ∧ i.itemFits cfg.itemW = true := by
  rw [Instr.wf, Bool.and_eq_true]

/-- Settles O3: `RSV` is zero, the item keeps all its bits, and the opcode map gives the row back. -/
theorem decodeOfEncodeIsIdentity : Obligations.DecodeOfEncodeIsIdentity := by
  intro cfg i hwf
  obtain ⟨hvariant, hitem⟩ := (instrWf_iff cfg i).mp hwf
  rw [encode, decode_of_rsv_zero _ (cmdRsv_encodeCmd i), itemBits_encodeWdata hitem, decodeOp_encode hvariant]

/-! ### Encoding what the decoder gives -/

/-- A command that decodes has a zero `RSV`, and its `OP` decodes to the same instruction. -/
theorem decodeOp_of_decode_ok (h : decode cfg cmd wdata = .ok i) :
    cmdRsv cmd = 0 ∧ decodeOp cfg.variant (cmdOp cmd) (itemBits cfg.itemW wdata) = .ok i := by
  by_cases hrsv : cmdRsv cmd = 0
  · exact ⟨hrsv, decode_of_rsv_zero wdata hrsv ▸ h⟩
  · rw [decode_of_rsv_ne_zero wdata hrsv] at h
    cases h

/-- No two codes of `OP` select one row. -/
theorem encodeCmd_toNat_of_decodeOp (h : decodeOp v op item = .ok i) : (encodeCmd i).toNat = op.toNat := by
  unfold decodeOp at h
  split at h <;> cases h <;> simp [encodeCmd, *]

/-- The decoder puts the item in a WRITE, and nothing in any other row. -/
theorem encodeWdata_of_decodeOp (h : decodeOp v op item = .ok i) :
    encodeWdata i = if i.isWrite then item else 0 := by
  unfold decodeOp at h
  split at h <;> cases h <;> rfl

theorem itemFits_iff (i : Instr) (itemW : Nat) : i.itemFits itemW = true ↔ encodeWdata i < 2 ^ itemW := by
  cases i with
  | r256Write _ | rnWrite _ => exact decide_eq_true_iff
  | _ => exact iff_of_true rfl (Nat.two_pow_pos itemW)

theorem encodeCmd_of_decode (h : decode cfg cmd wdata = .ok i) : encodeCmd i = cmd := by
  obtain ⟨hrsv, hop⟩ := decodeOp_of_decode_ok h
  apply BitVec.eq_of_toNat_eq
  rw [encodeCmd_toNat_of_decodeOp hop, cmdOp_toNat_of_rsv hrsv]

theorem encodeWdata_of_decode (h : decode cfg cmd wdata = .ok i) :
    encodeWdata i = if i.isWrite then itemBits cfg.itemW wdata else 0 :=
  encodeWdata_of_decodeOp (decodeOp_of_decode_ok h).2

theorem wf_of_decode (h : decode cfg cmd wdata = .ok i) : i.wf cfg = true := by
  rw [instrWf_iff, itemFits_iff, encodeWdata_of_decode h]
  refine ⟨decode_ofVariant h, ?_⟩
  split
  · exact itemBits_lt cfg.itemW wdata
  · exact Nat.two_pow_pos cfg.itemW

/-- Settles O4: the row names its own `OP`, and only a WRITE holds the item. -/
theorem decodedInstrIsOfInstance : Obligations.DecodedInstrIsOfInstance := by
  intro cfg cmd wdata i h
  refine ⟨wf_of_decode h, encodeCmd_of_decode h, fun hi => ?_⟩
  rw [encodeWdata_of_decode h, if_pos hi]
  rfl

/-! ### The assembler (R68) -/

/-- What a line can assemble to: WRITE's word with an item that fits, or another legal word without an operand. -/
theorem assembleLine_cases {line : List Char} (h : assembleLine cfg line = .ok (some (cmd, wdata))) :
    (cmd = 0x04#8 ∧ wdata < 2 ^ cfg.itemW) ∨ (cmd.toNat ≤ 5 ∧ cmd ≠ 0x04#8 ∧ wdata = 0) := by
  unfold assembleLine at h
  split at h
  case h_7 => -- WRITE, the one mnemonic with an operand
    split at h
    · split at h
      · rename_i hlt
        cases h
        exact .inl ⟨rfl, hlt⟩
      · cases h
    · cases h
  case h_1 | h_8 => cases h -- an empty line, and no command's mnemonic
  all_goals
    cases h
    exact .inr (by decide)

/-- Only the rows of WRITE have the word 0x04 (30_encoding.md R62). -/
theorem encodeCmd_eq_writeWord_iff (i : Instr) : encodeCmd i = 0x04#8 ↔ i.isWrite = true := by
  cases i <;> simp [encodeCmd, Instr.isWrite]

/-- Settles O6: the word is legal, so it decodes; its row gives the word back, and the item already fits. -/
theorem assembledLineDecodes : Obligations.AssembledLineDecodes := by
  intro cfg line cmd wdata h
  have hlegal : cmd.toNat ≤ 5 ∧ wdata < 2 ^ cfg.itemW := by
    rcases assembleLine_cases h with ⟨rfl, hlt⟩ | ⟨hle, _, rfl⟩
    · exact ⟨by decide, hlt⟩
    · exact ⟨hle, Nat.two_pow_pos cfg.itemW⟩
  obtain ⟨hle, hlt⟩ := hlegal
  obtain ⟨i, hd⟩ := (decode_ok_iff cfg cmd wdata).mpr hle
  have hcmd := encodeCmd_of_decode hd
  refine ⟨hlt, i, hd, Prod.ext hcmd ?_⟩
  rw [encode, encodeWdata_of_decode hd]
  split
  · exact Nat.mod_eq_of_lt hlt
  · rename_i hi
    rcases assembleLine_cases h with ⟨rfl, _⟩ | ⟨_, _, hzero⟩
    · exact absurd ((encodeCmd_eq_writeWord_iff i).mp hcmd) hi
    · exact hzero.symm

end Sys2Proof.Machine
end

section
/-!
PROOFS. What a step does with the event at the port (30_encoding.md R60; 20_memory.md R47, R55), and the model's stops
where the spec has no instance or no slot (60_exceptions.md R162; 20_memory.md R41).
-/

namespace Sys2Proof.Machine

variable {s t : State} {i : Instr}

/-! ### A step by what stands at the port -/

/-- Settles O7: the step fetches the decoded instruction and runs it. -/
theorem stepRunsDecodedInstruction : Obligations.StepRunsDecodedInstruction :=
  fun _ _ _ _ _ hwf hp hd => step_of_decode_ok hwf hp hd

/-- Settles O8: the port offers nothing, so the step is idle. -/
theorem stepWithoutEventKeepsState : Obligations.StepWithoutEventKeepsState :=
  fun _ hwf hp => step_of_empty_port hwf hp

/-! ### No such instance (60_exceptions.md R162; 30_encoding.md R63) -/

theorem step_of_not_wf (h : s.cfg.wf = false) : step s = .refused .badConfiguration := by
  simp [step, fetch, h]

/-- Only an admitted configuration steps to a next state. -/
theorem cfgWf_of_step (h : step s = .next t) : s.cfg.wf = true := by
  cases hwf : s.cfg.wf with
  | true => rfl
  | false => simp [step_of_not_wf hwf] at h

theorem asR256_of_rn {size : Nat} {mode : AvailableNMode} (h : s.cfg.variant = .rn size mode) : s.asR256 = none := by
  simp [State.asR256, h]

theorem asRN_of_r256 (h : s.cfg.variant = .r256) : s.asRN = none := by
  simp [State.asRN, h]

/-- An instruction of the other variant finds no registers of its own. -/
theorem exec_of_otherVariant (h : i.ofVariant s.cfg.variant = false) : exec i s = .refused .otherVariant := by
  cases hv : s.cfg.variant with
  | r256 =>
    have hnone := asRN_of_r256 hv
    rw [hv] at h
    cases i with
    | rnIsempty | rnIsfull | rnAvailable | rnCount | rnWrite _ | rnRead =>
      simp [exec, execRNIsempty, execRNIsfull, execRNAvailable, execRNCount, execRNWrite, execRNRead, hnone]
    | _ => simp [Instr.ofVariant] at h
  | rn size mode =>
    have hnone := asR256_of_rn hv
    rw [hv] at h
    cases i with
    | r256Isempty | r256Isfull | r256Available | r256Count | r256Write _ | r256Read =>
      simp [exec, execR256Isempty, execR256Isfull, execR256Available, execR256Count, execR256Write, execR256Read,
        hnone]
    | _ => simp [Instr.ofVariant] at h

/-- Settles O12: the instruction finds no registers of its variant, and the step no admitted configuration. -/
theorem impossibleInstanceRefused : Obligations.ImpossibleInstanceRefused :=
  ⟨fun _ _ hi => exec_of_otherVariant hi, fun s hb => step_of_not_wf ((build_eq_refused_iff s.cfg).mp hb)⟩

/-! ### No such slot (20_memory.md R41) -/

theorem writeItem_fault (w : Item) (hn : ¬(s.cfg.overwritePolicy = .reject ∧ s.full = true))
    (ht : s.cfg.cap ≤ s.regs.tailSlot) : writeItem w s = .fault (.slotOutOfRange s.regs.tailSlot) := by
  rw [writeItem_eq, if_neg hn, storeItem_eq, State.prepared_tailSlot, s.prepared_frame.1, if_neg (Nat.not_lt.mpr ht)]

theorem readItem_fault (he : ¬s.empty = true) (hh : s.cfg.cap ≤ s.regs.headSlot) :
    readItem s = .fault (.slotOutOfRange s.regs.headSlot) := by
  rw [readItem_eq, if_neg (fun hd => he hd.2), if_neg (fun hor => hor.elim he (Nat.not_lt.mpr hh))]

/-- Settles O13: the one slot that WRITE stores to and the one that READ reads must exist. -/
theorem slotOutsideStoreFaults : Obligations.SlotOutsideStoreFaults := by
  intro s size mode r h
  rw [← h.tailSlot_eq, ← h.headSlot_eq, ne_eq, ← h.empty_iff, ← h.cap]
  refine ⟨fun w ht hmoves => ?write, fun hh he => ?read⟩
  case write =>
    rw [exec_write_rn h, writeItem_fault w ((s.tailMoves_iff _).mp hmoves).2 ht]
  case read => rw [exec_read_rn h, readItem_fault he hh]

end Sys2Proof.Machine
end

section
/-!
PROOFS. What an instruction does to each field of the state, and from it the frames of WRITE and READ (R104, R105, R124,
R125), the configuration (00_scope.md R3) and the slots that hold a value (10_state.md R33).
-/

namespace Sys2Proof.Machine

variable {s t : State} {i : Instr} {w : Item}

/-! ### What no instruction changes -/

theorem writeItem_frame (h : writeItem w s = .next t) :
    t.cfg = s.cfg ∧ t.refusedMark = s.refusedMark ∧ t.port = s.port ∧ t.draws = s.draws ∧
      ∃ ack, t.responses = s.responses ++ [⟨ack, 0, 0#32⟩] := by
  rcases writeItem_cases h with ⟨_, _, rfl⟩ | ⟨_, _, rfl⟩
  · exact ⟨rfl, rfl, rfl, rfl, _, rfl⟩
  · obtain ⟨hcfg, _, hmark, hport, hresp, hdraws⟩ := s.prepared_frame
    exact ⟨hcfg, hmark, hport, hdraws, _, congrArg (· ++ _) hresp⟩

theorem readItem_frame (h : readItem s = .next t) :
    t.cfg = s.cfg ∧ t.items = s.items ∧ t.refusedMark = s.refusedMark ∧ t.port = s.port ∧
      ∃ ack data, t.responses = s.responses ++ [⟨ack, data, 0#32⟩] := by
  rcases readItem_cases h with ⟨_, _, rfl⟩ | ⟨_, _, rfl⟩
  · exact ⟨rfl, rfl, rfl, rfl, _, _, rfl⟩
  · obtain ⟨hcfg, _, hitems, hmark, hport, hresp⟩ := s.marked_frame
    exact ⟨hcfg, hitems, hmark, hport, _, _, congrArg (· ++ _) hresp⟩

theorem exec_frame (h : exec i s = .next t) : t.cfg = s.cfg ∧ t.refusedMark = s.refusedMark := by
  rcases exec_cases h with ⟨v, _, rfl⟩ | ⟨w, _, hx⟩ | ⟨_, hx⟩
  · exact ⟨rfl, rfl⟩
  · obtain ⟨hcfg, hmark, _⟩ := writeItem_frame hx
    exact ⟨hcfg, hmark⟩
  · obtain ⟨hcfg, _, hmark, _⟩ := readItem_frame hx
    exact ⟨hcfg, hmark⟩

theorem exec_cfg (h : exec i s = .next t) : t.cfg = s.cfg :=
  (exec_frame h).1

/-- Settles O40: the reset event keeps the configuration, and so does every instruction. -/
theorem stepKeepsConfiguration : Obligations.StepKeepsConfiguration := by
  intro s t h
  rcases step_cases h with ⟨_, rfl⟩ | ⟨_, _, rfl⟩ | ⟨_, _, _, _, _, _, hx⟩
  · rfl
  · rfl
  · have hcfg := exec_cfg hx
    exact hcfg

/-! ### The registers: an instruction advances `head`, `tail`, both or none (10_state.md R34) -/

/-- The registers after the advances named: of `head` first, then of `tail`. -/
def Regs.moved (cap : Nat) (head tail : Bool) (g : Regs) : Regs :=
  let g' := if head then g.advanceHead cap else g
  if tail then g'.advanceTail cap else g'

theorem writeItem_regs (h : writeItem w s = .next t) :
    t.regs = s.regs.moved s.cfg.cap (s.cfg.overwritePolicy == .overwriteOldest && s.full)
      !(s.cfg.overwritePolicy == .reject && s.full) := by
  rcases writeItem_cases h with ⟨hp, hf, rfl⟩ | ⟨hn, _, rfl⟩
  · simp [Regs.moved, hp, hf]
  · have htail : (s.cfg.overwritePolicy == .reject && s.full) = false := by simpa using hn
    rw [State.prepared_stored_regs w hn, htail]
    simp only [Regs.moved, Bool.and_eq_true, beq_iff_eq, Bool.not_false, if_true]
    split <;> rfl

theorem readItem_regs (h : readItem s = .next t) :
    t.regs = s.regs.moved s.cfg.cap (!(s.cfg.emptyReadPolicy == .reject && s.empty)) false := by
  rcases readItem_cases h with ⟨hp, he, rfl⟩ | ⟨hn, _, rfl⟩
  · simp [Regs.moved, hp, he]
  · have hhead : (s.cfg.emptyReadPolicy == .reject && s.empty) = false := by simpa using hn
    obtain ⟨hcfg, hregs, _⟩ := s.marked_frame
    simp [Regs.moved, hhead, hcfg, hregs]

theorem exec_regs (h : exec i s = .next t) :
    t.regs = s.regs.moved s.cfg.cap (s.headMoves i) (s.tailMoves i) := by
  rcases exec_cases h with ⟨v, hv, rfl⟩ | ⟨w, hi, hx⟩ | ⟨hi, hx⟩
  · obtain ⟨hw, hr⟩ := not_transfer_of_queryValue hv
    simp [Regs.moved, State.headMoves, State.tailMoves, hw, hr]
  · rw [writeItem_regs hx]
    rcases hi with rfl | rfl <;> simp [State.headMoves, State.tailMoves, Instr.isWrite, Instr.isRead]
  · rw [readItem_regs hx]
    rcases hi with rfl | rfl <;> simp [State.headMoves, State.tailMoves, Instr.isWrite, Instr.isRead]

/-! ### The store: an instruction that advances `tail` writes the slot it named (20_memory.md R42) -/

theorem writeItem_items (h : writeItem w s = .next t) :
    t.items = if s.cfg.overwritePolicy = .reject ∧ s.full = true then s.items
      else writeSlot s.items s.regs.tailSlot (itemBits s.cfg.itemW w) := by
  rcases writeItem_cases h with ⟨hp, hf, rfl⟩ | ⟨hn, _, rfl⟩
  · rw [if_pos ⟨hp, hf⟩]
    rfl
  · obtain ⟨hcfg, hitems, _⟩ := s.prepared_frame
    rw [if_neg hn, State.stored, hcfg, hitems, State.prepared_tailSlot]

theorem exec_items (h : exec i s = .next t) :
    t.items = if s.tailMoves i then writeSlot s.items s.regs.tailSlot (itemBits s.cfg.itemW (encodeWdata i))
      else s.items := by
  rcases exec_cases h with ⟨v, hv, rfl⟩ | ⟨w, hi, hx⟩ | ⟨hi, hx⟩
  · obtain ⟨hw, _⟩ := not_transfer_of_queryValue hv
    simp [State.tailMoves_iff, hw]
  · rw [writeItem_items hx, ← ite_not]
    rcases hi with rfl | rfl <;> simp [State.tailMoves_iff, Instr.isWrite, encodeWdata]
  · rw [(readItem_frame hx).2.1]
    rcases hi with rfl | rfl <;> simp [State.tailMoves_iff, Instr.isWrite]

/-- 10_state.md R33: an instruction empties no slot. -/
theorem exec_keeps_value (h : exec i s = .next t) {k : Nat} (hk : readSlot s.items k ≠ none) :
    readSlot t.items k ≠ none := by
  rw [exec_items h]
  split
  · rw [readSlot_writeSlot]
    split
    · exact Option.some_ne_none _
    · exact hk
  · exact hk

/-- Settles O44: without a reset event a step is idle or an instruction, and neither empties a slot. -/
theorem writtenSlotKeepsAValue : Obligations.WrittenSlotKeepsAValue := by
  intro s t k h hnoreset hk
  rcases step_cases h with ⟨_, rfl⟩ | ⟨rest, hp, _⟩ | ⟨_, _, _, _, _, _, hx⟩
  · exact hk
  · exact absurd hp (hnoreset rest)
  · exact exec_keeps_value hx hk

/-! ### What the advances leave alone -/

section
variable (cap : Nat) (head tail : Bool)

theorem Regs.moved_false_headSlot (g : Regs) : (g.moved cap false tail).headSlot = g.headSlot := by
  cases tail <;> simp [Regs.moved]

theorem Regs.moved_false_wrapR (g : Regs) : (g.moved cap false tail).wrapR = g.wrapR := by
  cases tail <;> simp [Regs.moved]

/-- The registers of R256 stay R256's. `genR` and `wrapR` change only where `head` wraps, `genW` where `tail` does. -/
theorem Regs.moved_r256 (r : R256Regs) :
    ∃ r', (Regs.r256 r).moved cap head tail = .r256 r' ∧
      (head = false ∨ r.head ≠ 255#8 → r'.genR = r.genR ∧ r'.wrapR = r.wrapR) ∧
      (tail = false ∨ r.tail ≠ 255#8 → r'.genW = r.genW) := by
  cases head <;> cases tail <;>
    exact ⟨_, rfl, by simp +contextual [R256Regs.advanceHead_eq, R256Regs.advanceTail_eq]⟩

/-- In RN `wrapR` changes only where `head` wraps. -/
theorem Regs.moved_rn_wrapR {r : RNRegs} (h : r.head.toNat + 1 ≠ cap) :
    ((Regs.rn r).moved cap head tail).wrapR = r.wrapR := by
  have hstay : ((Regs.rn r).advanceHead cap).wrapR = r.wrapR := (r.advanceHead_wrapR cap).trans (if_neg h)
  cases head with
  | false => exact Regs.moved_false_wrapR cap tail _
  | true => cases tail <;> simp [Regs.moved, hstay]

end

/-! ### The frame of WRITE -/

/-- A WRITE that leaves `tail` leaves `head` too. -/
theorem State.headMoves_of_not_tailMoves (hi : i.isWrite = true) (htail : s.tailMoves i = false) :
    s.headMoves i = false := by
  have hread : i.isRead = false := by cases i <;> simp_all [Instr.isWrite, Instr.isRead]
  simp only [State.tailMoves, hi, Bool.true_and, Bool.not_eq_false', Bool.and_eq_true, beq_iff_eq] at htail
  simp [State.headMoves, hread, htail.1]

theorem State.tailMoves_of_isRead (hi : i.isRead = true) : s.tailMoves i = false := by
  cases i with
  | r256Read | rnRead => rfl
  | _ => simp [Instr.isRead] at hi

theorem exec_items_of_ne (h : exec i s = .next t) {k : Nat} (hk : k ≠ s.regs.tailSlot) :
    readSlot t.items k = readSlot s.items k := by
  rw [exec_items h]
  split
  · rw [readSlot_writeSlot, if_neg hk]
  · rfl

/-- Settles O27: one slot is written, the advances are those of R34, and only `WriteWhileFull` can be marked. -/
theorem writeFrame : Obligations.WriteFrame := by
  intro i s t hi h
  have hx := exec_isWrite hi h
  obtain ⟨hcfg, hmark, hport, hdraws, hresp⟩ := writeItem_frame hx
  have hpv := writeItem_pv hx
  refine ⟨fun k hk => exec_items_of_ne h hk, fun htail => ?declined, fun hhead => ?head, fun r hr => ?r256, ?empty,
    ?unwritten, hcfg, hport, hmark, hdraws, hresp⟩
  case declined =>
    rw [exec_declined (by simp [changesState_eq, hi]) h htail (State.headMoves_of_not_tailMoves hi htail)]
    exact ⟨rfl, rfl, rfl⟩
  case head =>
    rw [exec_regs h, hhead]
    exact ⟨Regs.moved_false_headSlot _ _ _, Regs.moved_false_wrapR _ _ _⟩
  case r256 =>
    obtain ⟨r', hr', hgenR, hgenW⟩ := Regs.moved_r256 s.cfg.cap (s.headMoves i) (s.tailMoves i) r
    exact ⟨r', by rw [exec_regs h, hr, hr'], fun hhead => (hgenR (.inl hhead)).1, fun hlast => hgenW (.inr hlast)⟩
  case empty =>
    rw [hpv]
    split <;> simp
  case unwritten =>
    rw [hpv]
    split <;> simp

/-! ### The frame of READ -/

/-- A READ of an item marks nothing and draws nothing. -/
theorem readItem_of_item (h : readItem s = .next t) (he : s.empty = false)
    (hv : readSlot s.items s.regs.headSlot ≠ none) : t.pv = s.pv ∧ t.draws = s.draws := by
  obtain ⟨v, hv⟩ := Option.ne_none_iff_exists'.mp hv
  rcases readItem_cases h with ⟨_, he', _⟩ | ⟨_, _, rfl⟩
  · simp [he] at he'
  · rw [State.marked_of_item (by simp [he]) hv]
    exact ⟨rfl, rfl⟩

/-- Settles O28: nothing is stored, `head` moves as R34 says, and only the two READ reasons can be marked. -/
theorem readFrame : Obligations.ReadFrame := by
  intro i s t hi h
  have hx := exec_isRead hi h
  have htail : s.tailMoves i = false := State.tailMoves_of_isRead hi
  obtain ⟨hcfg, hitems, hmark, hport, hresp⟩ := readItem_frame hx
  refine ⟨hitems, readItem_tailSlot hx, fun hhead => ?declined, fun r hr => ?r256, fun r hr hlast => ?rn, ?full,
    readItem_of_item hx, hcfg, hport, hmark, hresp⟩
  case declined =>
    rw [exec_declined (by simp [changesState_eq, hi]) h htail hhead]
    exact ⟨rfl, rfl⟩
  case r256 =>
    obtain ⟨r', hr', hgenR, hgenW⟩ := Regs.moved_r256 s.cfg.cap (s.headMoves i) (s.tailMoves i) r
    exact ⟨r', by rw [exec_regs h, hr, hr'], hgenW (.inl htail), fun hlast => hgenR (.inr hlast)⟩
  case rn => rw [exec_regs h, hr, Regs.moved_rn_wrapR _ _ _ hlast]
  case full =>
    rw [readItem_pv hx]
    split_ifs <;> simp

end Sys2Proof.Machine
end

section
/-!
PROOFS. 10_state.md R29: the marks `PV` and `REFUSED` are never cleared, and no operation reads them.
-/

namespace Sys2Proof.Machine

variable {s t : State} {i : Instr} {w : Item}

/-! ### The marks are never cleared -/

/-- Every mark that is set in the first state is set in the second. -/
def State.MarksKept (s t : State) : Prop :=
  (s.pv.writeWhileFull = true → t.pv.writeWhileFull = true) ∧
    (s.pv.readWhileEmpty = true → t.pv.readWhileEmpty = true) ∧
    (s.pv.readUnwritten = true → t.pv.readUnwritten = true) ∧
    (s.refusedMark = true → t.refusedMark = true)

/-- An instruction only adds reasons (60_exceptions.md R161) and leaves `REFUSED`. -/
theorem exec_marksKept (h : exec i s = .next t) : s.MarksKept t := by
  obtain ⟨hwrite, hempty, hunwritten⟩ := reasonsMarked i s t h
  exact ⟨fun hm => hwrite.mpr (.inl hm), fun hm => hempty.mpr (.inl hm), fun hm => hunwritten.mpr (.inl hm),
    fun hm => (exec_frame h).2.trans hm⟩

theorem step_marksKept (h : step s = .next t) : s.MarksKept t := by
  rcases step_cases h with ⟨_, rfl⟩ | ⟨_, _, rfl⟩ | ⟨_, _, _, _, _, _, hx⟩
  · exact ⟨id, id, id, id⟩
  · exact ⟨id, id, id, id⟩
  · have hkept := exec_marksKept hx
    exact hkept

theorem advance_marksKept (s : State) : s.MarksKept (advance s) := by
  unfold advance
  split
  · exact step_marksKept ‹_›
  · exact ⟨id, id, id, id⟩
  · exact ⟨id, id, id, fun _ => rfl⟩

/-- Settles O41: a step keeps every mark, and a refusal leaves `State.afterRefusal`, where `REFUSED` is set. -/
theorem marksAreSticky : Obligations.MarksAreSticky := by
  intro s
  obtain ⟨hwrite, hempty, hunwritten, hrefused⟩ := advance_marksKept s
  refine ⟨hwrite, hempty, hunwritten, hrefused, fun reason h => ?_⟩
  rw [advance_of_refused h]
  rfl

/-! ### No operation reads the marks: each does the same whatever they are -/

/-- The state with other marks. -/
def State.withMarks (s : State) (p : PVMarks) (b : Bool) : State := { s with pv := p, refusedMark := b }

/-- Which operation an instruction runs is fixed by the configuration and the registers. -/
theorem exec_cases_of_same_regs {u : State} (hcfg : u.cfg = s.cfg) (hregs : u.regs = s.regs) (h : exec i s = .next t) :
    (∃ v, t = s.answer v ∧ exec i u = .next (u.answer v)) ∨
      (∃ w, writeItem w s = .next t ∧ exec i u = writeItem w u) ∨
      (readItem s = .next t ∧ exec i u = readItem u) := by
  have h256 : u.asR256 = s.asR256 := by rw [State.asR256, State.asR256, hcfg, hregs]
  have hrn : u.asRN = s.asRN := by rw [State.asRN, State.asRN, hcfg, hregs]
  cases i with
  | r256Isempty | r256Isfull | r256Available | r256Count | rnIsempty | rnIsfull | rnAvailable | rnCount =>
    simp only [exec, execR256Isempty, execR256Isfull, execR256Available, execR256Count, execRNIsempty, execRNIsfull,
      execRNAvailable, execRNCount, h256, hrn] at h ⊢
    split at h <;> cases h
    exact .inl ⟨_, rfl, rfl⟩
  | r256Write w | rnWrite w =>
    simp only [exec, execR256Write, execRNWrite, h256, hrn] at h ⊢
    split at h
    · exact .inr (.inl ⟨w, h, rfl⟩)
    · cases h
  | r256Read | rnRead =>
    simp only [exec, execR256Read, execRNRead, h256, hrn] at h ⊢
    split at h
    · exact .inr (.inr ⟨h, rfl⟩)
    · cases h

section
variable (p : PVMarks) (b : Bool)

theorem State.prepared_withMarks (hn : ¬(s.cfg.overwritePolicy = .reject ∧ s.full = true)) :
    ∃ p', (s.withMarks p b).prepared = s.prepared.withMarks p' b := by
  rcases State.prepared_cases hn with ⟨hf, hp, hprep⟩ | ⟨hf, hp, hprep⟩ | ⟨hf, hprep⟩
  · rw [hprep, State.prepared_of_unchecked (s := s.withMarks p b) hp hf]
    exact ⟨_, rfl⟩
  · rw [hprep, State.prepared_of_overwriteOldest (s := s.withMarks p b) hp hf]
    exact ⟨_, rfl⟩
  · rw [hprep, State.prepared_of_not_full (s := s.withMarks p b) (ne_true_of_eq_false hf)]
    exact ⟨_, rfl⟩

theorem State.marked_withMarks (s : State) : ∃ p', (s.withMarks p b).marked = s.marked.withMarks p' b := by
  by_cases he : s.empty = true
  · rw [State.marked_of_empty he, State.marked_of_empty (s := s.withMarks p b) he]
    exact ⟨_, rfl⟩
  · cases hv : readSlot s.items s.regs.headSlot with
    | none =>
      rw [State.marked_of_unwritten he hv, State.marked_of_unwritten (s := s.withMarks p b) he hv]
      exact ⟨_, rfl⟩
    | some v =>
      rw [State.marked_of_item he hv, State.marked_of_item (s := s.withMarks p b) he hv]
      exact ⟨_, rfl⟩

theorem writeItem_withMarks (h : writeItem w s = .next t) :
    ∃ p', writeItem w (s.withMarks p b) = .next (t.withMarks p' b) := by
  rcases writeItem_cases h with ⟨hp, hf, rfl⟩ | ⟨hn, htail, rfl⟩
  · exact ⟨p, writeItem_declined (s := s.withMarks p b) w hp hf⟩
  · obtain ⟨p', hprep⟩ := State.prepared_withMarks p b hn
    refine ⟨p', ?_⟩
    rw [writeItem_stored (s := s.withMarks p b) w htail hn, hprep]
    rfl

theorem readItem_withMarks (h : readItem s = .next t) :
    ∃ p', readItem (s.withMarks p b) = .next (t.withMarks p' b) := by
  rcases readItem_cases h with ⟨hp, he, rfl⟩ | ⟨hn, hhead, rfl⟩
  · exact ⟨p, readItem_declined (s := s.withMarks p b) hp he⟩
  · obtain ⟨p', hmarked⟩ := s.marked_withMarks p b
    refine ⟨p', ?_⟩
    rw [readItem_eq (s.withMarks p b), hmarked]
    exact (if_neg hn).trans (if_pos hhead)

theorem exec_withMarks (h : exec i s = .next t) :
    ∃ p', exec i (s.withMarks p b) = .next (t.withMarks p' b) := by
  have hcases := exec_cases_of_same_regs (s := s) (u := s.withMarks p b) rfl rfl h
  rcases hcases with ⟨v, rfl, hu⟩ | ⟨w, hx, hu⟩ | ⟨hx, hu⟩
  · exact ⟨p, hu⟩
  · exact hu ▸ writeItem_withMarks p b hx
  · exact hu ▸ readItem_withMarks p b hx

end

/-- Settles O42: an idle step, the reset event, and WRITE, READ and the queries act alike on other marks. -/
theorem marksAreNeverRead : Obligations.MarksAreNeverRead := by
  intro s t p b h
  change ∃ p', step (s.withMarks p b) = .next (t.withMarks p' b)
  have hwf := cfgWf_of_step h
  rcases step_cases h with ⟨hp, rfl⟩ | ⟨rest, hp, rfl⟩ | ⟨cmd, wdata, rest, j, hp, hd, hx⟩
  · exact ⟨p, step_of_empty_port (s := t.withMarks p b) hwf hp⟩
  · exact ⟨p, step_of_reset_port (s := s.withMarks p b) hwf hp⟩
  · rw [step_of_decode_ok (s := s.withMarks p b) hwf hp hd]
    exact exec_withMarks p b hx

end Sys2Proof.Machine
end

section
/-!
PROOFS. 10_state.md section 5: what holds of an instance just built and every step keeps (R31, R32), and
40_index_and_detector.md R95: COUNT counts the advances of `head`.
-/

namespace Sys2Proof.Machine

variable {s t : State} {i : Instr}

/-! ### The invariant of every state (R31) -/

/-- The invariant speaks of the configuration, the registers and the store only. -/
theorem State.Inv.congr (hs : s.Inv) (hcfg : t.cfg = s.cfg) (hregs : t.regs = s.regs) (hitems : t.items = s.items) :
    t.Inv where
  cfgWf := hcfg ▸ hs.cfgWf
  variant := by rw [hcfg, hregs, hs.variant]
  headLt := by rw [hcfg, hregs]; exact hs.headLt
  tailLt := by rw [hcfg, hregs]; exact hs.tailLt
  memoryWf := by rw [State.memoryWf, hcfg, hitems]; exact hs.memoryWf

theorem State.Inv.mod_cap_lt (hs : s.Inv) (k : Nat) : k % s.cfg.cap < s.cfg.cap :=
  Nat.mod_lt k hs.cap_bounds.1

theorem State.Inv.advanceHead (hs : s.Inv) : s.advanceHead.Inv where
  cfgWf := hs.cfgWf
  variant := by simpa using hs.variant
  headLt := by
    rw [State.advanceHead_regs, hs.advanceHead_headSlot]
    exact hs.mod_cap_lt _
  tailLt := by simpa using hs.tailLt
  memoryWf := hs.memoryWf

/-- Storing an item writes an existing slot and moves `tail` to one. -/
theorem State.Inv.stored (hs : s.Inv) (w : Item) : (s.stored w).Inv where
  cfgWf := hs.cfgWf
  variant := by simpa [State.stored] using hs.variant
  headLt := by simpa [State.stored] using hs.headLt
  tailLt := by
    rw [State.stored, hs.advanceTail_tailSlot]
    exact hs.mod_cap_lt _
  memoryWf := by
    have hwrite : s.memWrite s.regs.tailSlot w =
        .ok { s with items := writeSlot s.items s.regs.tailSlot (itemBits s.cfg.itemW w) } := if_pos hs.tailLt
    have hwf := State.memWrite_keeps_memoryWf hwrite hs.memoryWf
    exact hwf

/-- A policy's part of WRITE marks, advances `head`, or does nothing. -/
theorem State.Inv.prepared (hs : s.Inv) : s.prepared.Inv := by
  unfold State.prepared
  split
  · split
    · exact hs.congr rfl rfl rfl
    · exact hs.advanceHead
    · exact hs
  · exact hs

theorem writeItem_keeps_inv {w : Item} (hs : s.Inv) (h : writeItem w s = .next t) : t.Inv := by
  rcases writeItem_cases h with ⟨_, _, rfl⟩ | ⟨_, _, rfl⟩
  · exact hs.congr rfl rfl rfl
  · exact hs.prepared.stored w

theorem readItem_keeps_inv (hs : s.Inv) (h : readItem s = .next t) : t.Inv := by
  rcases readItem_cases h with ⟨_, _, rfl⟩ | ⟨_, _, rfl⟩
  · exact hs.congr rfl rfl rfl
  · obtain ⟨hcfg, hregs, hitems, _⟩ := s.marked_frame
    exact (hs.congr hcfg hregs hitems).advanceHead.congr rfl rfl rfl

theorem exec_keeps_inv (hs : s.Inv) (h : exec i s = .next t) : t.Inv := by
  rcases exec_cases h with ⟨v, _, rfl⟩ | ⟨w, _, hx⟩ | ⟨_, hx⟩
  · exact hs.congr rfl rfl rfl
  · exact writeItem_keeps_inv hs hx
  · exact readItem_keeps_inv hs hx

/-! ### The reset values (R30) -/

theorem capPos_of_wf {cfg : Config} (hwf : cfg.wf = true) : 0 < cfg.cap := by
  simp only [Config.wf, Bool.and_eq_true] at hwf
  obtain ⟨⟨hsize, _⟩, _⟩ := hwf
  unfold Config.cap
  split <;> rename_i hv
  · exact Nat.zero_lt_succ 255
  · rw [hv] at hsize
    exact (of_decide_eq_true hsize).1

theorem Regs.zero_ofVariant (v : Variant) : (Regs.zero v).ofVariant v = true := by
  cases v <;> rfl

theorem Regs.zero_headSlot (v : Variant) : (Regs.zero v).headSlot = 0 := by
  cases v <;> rfl

theorem Regs.zero_tailSlot (v : Variant) : (Regs.zero v).tailSlot = 0 := by
  cases v <;> rfl

/-- An admitted configuration has a slot 0, which both indices name. -/
theorem State.built_inv {cfg : Config} (hwf : cfg.wf = true) : (State.built cfg).Inv where
  cfgWf := hwf
  variant := Regs.zero_ofVariant cfg.variant
  headLt := by
    rw [State.built_regs, Regs.zero_headSlot]
    exact capPos_of_wf hwf
  tailLt := by
    rw [State.built_regs, Regs.zero_tailSlot]
    exact capPos_of_wf hwf
  memoryWf := State.built_memoryWf cfg

/-- Settles O35: the reset event leaves what an instance just built has, and WRITE and READ keep each clause. -/
theorem stepKeepsInv : Obligations.StepKeepsInv := by
  intro s t hs h
  rcases step_cases h with ⟨_, rfl⟩ | ⟨_, _, rfl⟩ | ⟨_, _, rest, _, _, _, hx⟩
  · exact hs
  · exact (State.built_inv hs.cfgWf).congr rfl rfl rfl
  · exact exec_keeps_inv (hs.with_port rest) hx

/-! ### `genR` is the parity of `wrapR` (R32) -/

/-- `State.GenParity` of the registers alone. -/
def Regs.GenParity : Regs → Prop
  | .r256 r => r.genR = r.wrapR.setWidth 1
  | .rn _   => True

theorem State.genParity_iff (s : State) : s.GenParity ↔ s.regs.GenParity := by
  unfold State.GenParity
  cases s.regs <;> simp [Regs.GenParity]

/-- Adding one flips bit 0, also where the counter overflows. -/
theorem setWidth_one_add_one (c : Count) : (c + 1#32).setWidth 1 = c.setWidth 1 ^^^ 1#1 := by
  have hflip : ∀ b : Bit, b + 1#1 = b ^^^ 1#1 := by decide
  rw [BitVec.setWidth_add c 1#32 (by decide), ← hflip]
  rfl

theorem Regs.GenParity.advanceHead {g : Regs} (h : g.GenParity) (cap : Nat) : (g.advanceHead cap).GenParity := by
  cases g with
  | rn _ => exact trivial
  | r256 r =>
    change r.genR = r.wrapR.setWidth 1 at h
    change r.advanceHead.genR = r.advanceHead.wrapR.setWidth 1
    rw [r.advanceHead_genR, r.advanceHead_wrapR]
    split
    · rw [setWidth_one_add_one, h]
    · exact h

theorem Regs.GenParity.advanceTail {g : Regs} (h : g.GenParity) (cap : Nat) : (g.advanceTail cap).GenParity := by
  cases g <;> exact h

theorem Regs.GenParity.moved {g : Regs} (h : g.GenParity) (cap : Nat) (head tail : Bool) :
    (g.moved cap head tail).GenParity := by
  cases head <;> cases tail
  · exact h
  · exact h.advanceTail cap
  · exact h.advanceHead cap
  · exact (h.advanceHead cap).advanceTail cap

theorem Regs.zero_genParity (v : Variant) : (Regs.zero v).GenParity := by
  cases v
  · exact (rfl : (0#1 : Bit) = (0#32).setWidth 1)
  · exact trivial

/-- Settles O38: `genR` flips exactly where `wrapR` is incremented. -/
theorem stepKeepsGenParity : Obligations.StepKeepsGenParity := by
  intro s t hs h
  rw [State.genParity_iff] at hs ⊢
  rcases step_cases h with ⟨_, rfl⟩ | ⟨_, _, rfl⟩ | ⟨_, _, _, _, _, _, hx⟩
  · exact hs
  · exact Regs.zero_genParity _
  · rw [exec_regs hx]
    exact hs.moved _ _ _

/-! ### COUNT (40_index_and_detector.md R95) -/

/-- The COUNT result from the registers. -/
def Regs.position (cap : Nat) : Regs → Count
  | .r256 r => r.count
  | .rn r   => r.count cap

theorem State.readPosition_eq (s : State) : s.readPosition = s.regs.position s.cfg.cap := by
  unfold State.readPosition
  cases s.regs <;> rfl

@[simp] theorem Regs.position_advanceTail (cap : Nat) (g : Regs) :
    (g.advanceTail cap).position cap = g.position cap := by
  cases g <;> rfl

/-- A COUNT of `wrapR` laps of `size` slots grows by one at an advance: within the lap, or to the start of the next. -/
theorem R256Regs.count_advanceHead (r : R256Regs) : r.advanceHead.count = r.count + 1#32 := by
  have hlt := r.head.isLt
  apply BitVec.eq_of_toNat_eq
  simp only [R256Regs.count, r.advanceHead_head, r.advanceHead_wrapR, adv256_fst_toNat, BitVec.toNat_add,
    BitVec.toNat_ofNat, apply_ite BitVec.toNat]
  split <;> omega

/-- COUNT of RN in the arithmetic of its 32 bits. -/
theorem RNRegs.count_eq_mul (size : Nat) (r : RNRegs) :
    r.count size = r.wrapR * BitVec.ofNat 32 size + BitVec.ofNat 32 r.head.toNat := by
  rw [RNRegs.count, BitVec.ofNat_add, BitVec.ofNat_mul, BitVec.ofNat_toNat, BitVec.setWidth_eq]

theorem RNRegs.count_advanceHead {size : Nat} {r : RNRegs} (hh : r.head.toNat < size) (hmax : size ≤ 32768) :
    (r.advanceHead size).count size = r.count size + 1#32 := by
  rw [RNRegs.count_eq_mul, RNRegs.count_eq_mul, r.advanceHead_head, r.advanceHead_wrapR, advN_fst_toNat hh hmax,
    succ_mod hh]
  split
  · rename_i hlast
    have hsize : BitVec.ofNat 32 size = BitVec.ofNat 32 r.head.toNat + 1#32 := by rw [← hlast, BitVec.ofNat_add]
    rw [BitVec.add_mul, BitVec.one_mul, BitVec.add_assoc _ _ 1#32, ← hsize]
    exact BitVec.add_zero _
  · rw [BitVec.ofNat_add, BitVec.add_assoc]

theorem Regs.position_advanceHead {cap : Nat} {g : Regs} (hh : g.headSlot < cap) (hmax : cap ≤ 32768) :
    (g.advanceHead cap).position cap = g.position cap + 1#32 := by
  cases g with
  | r256 r => exact r.count_advanceHead
  | rn r => exact RNRegs.count_advanceHead hh hmax

theorem Regs.position_moved {cap : Nat} {g : Regs} (hh : g.headSlot < cap) (hmax : cap ≤ 32768) (head tail : Bool) :
    (g.moved cap head tail).position cap = if head then g.position cap + 1#32 else g.position cap := by
  cases head <;> cases tail <;> simp [Regs.moved, Regs.position_advanceHead hh hmax]

/-- Settles O46: COUNT depends on `head` and `wrapR` only, and grows by one at an advance of `head`. -/
theorem countGrowsWithHead : Obligations.CountGrowsWithHead := by
  intro i s t hs h
  rw [State.readPosition_eq, State.readPosition_eq, exec_cfg h, exec_regs h,
    Regs.position_moved hs.headLt hs.cap_bounds.2]

end Sys2Proof.Machine
end

section
/-!
PROOFS. 40_index_and_detector.md section 4: the occupancy of R256 (R91) and of RN (R92).
-/

namespace Sys2Proof.Machine

/-! ### The 9-bit view of R256 (R91) -/

theorem R256Regs.advanceTail_t9 (r : R256Regs) : r.advanceTail.t9 = r.t9 + 1#9 := by
  obtain ⟨_, ht, _, hw⟩ := r.toNat_bounds
  apply BitVec.eq_of_toNat_eq
  rw [R256Regs.t9_toNat, BitVec.toNat_add, r.t9_toNat, r.advanceTail_genW, apply_ite BitVec.toNat, flipBit_toNat,
    r.advanceTail_tail, adv256_fst_toNat, BitVec.toNat_ofNat]
  split <;> omega

theorem R256Regs.advanceHead_h9 (r : R256Regs) : r.advanceHead.h9 = r.h9 + 1#9 := by
  obtain ⟨hh, _, hr, _⟩ := r.toNat_bounds
  apply BitVec.eq_of_toNat_eq
  rw [R256Regs.h9_toNat, BitVec.toNat_add, r.h9_toNat, r.advanceHead_genR, apply_ite BitVec.toNat, flipBit_toNat,
    r.advanceHead_head, adv256_fst_toNat, BitVec.toNat_ofNat]
  split <;> omega

/-- Settles O33: the generation flag carries the wrap into the ninth bit, and neither advance touches the other view. -/
theorem occupancyOfR256 : Obligations.OccupancyOfR256 :=
  fun r => ⟨r.advanceTail_t9, rfl, r.advanceHead_h9, rfl, r.empty_iff_occ, r.full_iff_occ⟩

/-! ### The occupancy of RN (R92) -/

section
variable {size : Nat} {r : RNRegs}

theorem RNRegs.occ_lt (hh : r.head.toNat < size) (ht : r.tail.toNat < size) : r.occ size < size := by
  rw [RNRegs.occ_eq hh ht]
  split <;> omega

theorem RNRegs.advanceTail_head (size : Nat) (r : RNRegs) : (r.advanceTail size).head = r.head := rfl

theorem RNRegs.advanceTail_occ (hmax : size ≤ 32768) (hh : r.head.toNat < size) (ht : r.tail.toNat < size) :
    (r.advanceTail size).occ size = (r.occ size + 1) % size := by
  have htail : (r.advanceTail size).tail.toNat = if r.tail.toNat + 1 = size then 0 else r.tail.toNat + 1 := by
    rw [r.advanceTail_eq, advN_fst_toNat ht hmax, succ_mod ht]
  have hlt : (r.advanceTail size).tail.toNat < size := by
    rw [htail]
    split <;> omega
  rw [succ_mod (RNRegs.occ_lt hh ht), RNRegs.occ_eq (r := r.advanceTail size) hh hlt, RNRegs.occ_eq hh ht, htail,
    r.advanceTail_head]
  split_ifs <;> omega

theorem RNRegs.advanceHead_occ (hmax : size ≤ 32768) (hh : r.head.toNat < size) (ht : r.tail.toNat < size) :
    (r.advanceHead size).occ size = (r.occ size + size - 1) % size := by
  have hhead : (r.advanceHead size).head.toNat = if r.head.toNat + 1 = size then 0 else r.head.toNat + 1 := by
    rw [r.advanceHead_head, advN_fst_toNat hh hmax, succ_mod hh]
  have hlt : (r.advanceHead size).head.toNat < size := by
    rw [hhead]
    split <;> omega
  rw [pred_mod (by omega) (RNRegs.occ_lt hh ht), RNRegs.occ_eq hlt ht, RNRegs.occ_eq hh ht, hhead,
    r.advanceHead_tail]
  split_ifs <;> omega

theorem RNRegs.empty_iff_occ (hh : r.head.toNat < size) (ht : r.tail.toNat < size) :
    r.empty = true ↔ r.occ size = 0 := by
  rw [r.empty_iff, RNRegs.occ_eq hh ht]
  split <;> omega

/-- With `SIZE = 1` an occupancy of 0 is both EMPTY and FULL, which agrees. -/
theorem RNRegs.full_iff_occ (hh : r.head.toNat < size) (ht : r.tail.toNat < size) :
    r.full size = true ↔ r.occ size = size - 1 := by
  rw [RNRegs.full_iff_pred (by omega) hh, RNRegs.occ_eq hh ht]
  split_ifs <;> omega

end

/-- Settles O34: R92's remainder written without it, at an index that wraps and at one that does not. -/
theorem occupancyOfRN : Obligations.OccupancyOfRN := by
  intro size r _ hmax hh ht
  exact ⟨RNRegs.advanceTail_occ hmax hh ht, RNRegs.advanceHead_occ hmax hh ht, RNRegs.empty_iff_occ hh ht,
    fun _ => RNRegs.full_iff_occ hh ht, Nat.le_sub_one_of_lt (RNRegs.occ_lt hh ht)⟩

end Sys2Proof.Machine
end

section
/-!
PROOFS. The queue of held items (40_index_and_detector.md R94): how WRITE and READ change it, that it stays sound while
no precondition is broken (10_state.md R33), and the claims of 41_fixed_ring_256.md R110, 42_fixed_ring_n.md R130,
20_memory.md R48 and 70_reset_and_hazards.md R184, R185, R187 about it.
-/

namespace Sys2Proof.Machine

variable {s t : State} {i : Instr} {w : Item}

/-! ### The occupancy of an instance, in either variant -/

theorem State.IsR256.occ_eq {r : R256Regs} (h : s.IsR256 r) : s.occ = r.occ := by
  rw [State.occ, h.2]

theorem State.IsRN.occ_eq {size : Nat} {mode : AvailableNMode} {r : RNRegs} (h : s.IsRN size mode r) :
    s.occ = r.occ size := by
  rw [State.occ, h.2, h.cap]

theorem State.IsR256.usableCapacity_eq {r : R256Regs} (h : s.IsR256 r) : s.cfg.usableCapacity = 256 := by
  rw [Config.usableCapacity, h.1]

theorem State.IsRN.usableCapacity_eq {size : Nat} {mode : AvailableNMode} {r : RNRegs} (h : s.IsRN size mode r) :
    s.cfg.usableCapacity = size - 1 := by
  rw [Config.usableCapacity, h.1]

theorem State.IsRN.advanceHead {size : Nat} {mode : AvailableNMode} {r : RNRegs} (h : s.IsRN size mode r) :
    s.advanceHead.IsRN size mode (r.advanceHead size) :=
  ⟨h.1, h.advanceHead_regs⟩

theorem State.IsRN.stored {size : Nat} {mode : AvailableNMode} {r : RNRegs} (h : s.IsRN size mode r) (w : Item) :
    (s.stored w).IsRN size mode (r.advanceTail size) :=
  ⟨h.1, h.advanceTail_regs⟩

theorem State.IsRN.indices_lt {size : Nat} {mode : AvailableNMode} {r : RNRegs} (h : s.IsRN size mode r)
    (hs : s.Inv) : size ≤ 32768 ∧ r.head.toNat < size ∧ r.tail.toNat < size := by
  have hmax := hs.cap_bounds.2
  have hh := hs.headLt
  have ht := hs.tailLt
  rw [h.cap] at hmax hh ht
  rw [h.headSlot_eq] at hh
  rw [h.tailSlot_eq] at ht
  exact ⟨hmax, hh, ht⟩

/-- Every slot of R256 is usable, every slot but one of RN (00_scope.md R4). -/
theorem usableCapacity_bounds (cfg : Config) : cfg.cap - 1 ≤ cfg.usableCapacity ∧ cfg.usableCapacity ≤ cfg.cap := by
  unfold Config.cap Config.usableCapacity
  cases cfg.variant <;> constructor <;> simp

theorem State.Inv.empty_iff_occ (hs : s.Inv) : s.empty = true ↔ s.occ = 0 := by
  rcases hs.regs_cases with ⟨r, h⟩ | ⟨size, mode, r, h⟩
  · rw [h.occ_eq, h.empty_iff_occ]
  · obtain ⟨_, hh, ht⟩ := h.indices_lt hs
    rw [h.occ_eq, ← RNRegs.empty_iff_occ hh ht, State.empty, h.2]
    rfl

theorem State.Inv.full_iff_occ (hs : s.Inv) : s.full = true ↔ s.occ = s.cfg.usableCapacity := by
  rcases hs.regs_cases with ⟨r, h⟩ | ⟨size, mode, r, h⟩
  · rw [h.occ_eq, h.usableCapacity_eq, h.full_iff_occ]
  · obtain ⟨_, hh, ht⟩ := h.indices_lt hs
    rw [h.occ_eq, h.usableCapacity_eq, ← RNRegs.full_iff_occ hh ht, h.full_eq]

/-- `tail` names the slot after the newest held item. -/
theorem State.Inv.slotFromHead_occ (hs : s.Inv) : s.slotFromHead s.occ = s.regs.tailSlot := by
  rcases hs.regs_cases with ⟨r, h⟩ | ⟨size, mode, r, h⟩
  · obtain ⟨hh, ht, hr, hw⟩ := r.toNat_bounds
    rw [State.slotFromHead, h.cap, h.occ_eq, h.headSlot_eq, h.2, r.occ_eq, Regs.tailSlot]
    omega
  · obtain ⟨_, hh, ht⟩ := h.indices_lt hs
    rw [State.slotFromHead, h.cap, h.occ_eq, h.headSlot_eq, h.tailSlot_eq, RNRegs.occ_eq hh ht]
    split
    · rw [Nat.add_sub_cancel' ‹_›, Nat.mod_eq_of_lt ht]
    · rw [Nat.add_sub_cancel' (by omega), Nat.add_mod_right, Nat.mod_eq_of_lt ht]

theorem State.Inv.occ_stored (hs : s.Inv) (hlt : s.occ < s.cfg.usableCapacity) : (s.stored w).occ = s.occ + 1 := by
  rcases hs.regs_cases with ⟨r, h⟩ | ⟨size, mode, r, h⟩
  · rw [h.occ_eq, h.usableCapacity_eq] at hlt
    rw [(h.stored w).occ_eq, h.occ_eq, r.advanceTail_occ]
    omega
  · obtain ⟨hmax, hh, ht⟩ := h.indices_lt hs
    rw [h.occ_eq, h.usableCapacity_eq] at hlt
    rw [(h.stored w).occ_eq, h.occ_eq, RNRegs.advanceTail_occ hmax hh ht]
    exact Nat.mod_eq_of_lt (by omega)

theorem State.Inv.occ_advanceHead (hs : s.Inv) (hpos : 0 < s.occ) : s.advanceHead.occ + 1 = s.occ := by
  rcases hs.regs_cases with ⟨r, h⟩ | ⟨size, mode, r, h⟩
  · have hlt : r.occ < 512 := (r.t9 - r.h9).isLt
    rw [h.occ_eq] at hpos
    rw [h.advanceHead.occ_eq, h.occ_eq, r.advanceHead_occ]
    omega
  · obtain ⟨hmax, hh, ht⟩ := h.indices_lt hs
    rw [h.occ_eq] at hpos
    rw [h.advanceHead.occ_eq, h.occ_eq, RNRegs.advanceHead_occ hmax hh ht,
      pred_mod (by omega) (RNRegs.occ_lt hh ht), if_neg (by omega)]
    omega

theorem State.Inv.occ_pos (hs : s.Inv) (he : s.empty = false) : 0 < s.occ :=
  Nat.pos_of_ne_zero fun h0 => absurd (hs.empty_iff_occ.mpr h0) (by simp [he])

theorem State.Inv.occ_lt_usable (hs : s.Inv) (hf : s.full = false) (hle : s.occ ≤ s.cfg.usableCapacity) :
    s.occ < s.cfg.usableCapacity :=
  Nat.lt_of_le_of_ne hle fun heq => absurd (hs.full_iff_occ.mpr heq) (by simp [hf])

/-- With one slot an instance never holds an item. -/
theorem State.Inv.occ_of_cap_one (hs : s.Inv) (hcap : s.cfg.cap = 1) : s.occ = 0 := by
  rcases hs.regs_cases with ⟨r, h⟩ | ⟨size, mode, r, h⟩
  · simp [h.cap] at hcap
  · obtain ⟨_, hh, ht⟩ := h.indices_lt hs
    have hlt := RNRegs.occ_lt hh ht
    rw [h.cap] at hcap
    rw [h.occ_eq]
    omega

/-! ### The queue (R94) -/

/-- The queue depends on the configuration, the registers and the store only. -/
theorem State.queue_congr (hcfg : t.cfg = s.cfg) (hregs : t.regs = s.regs) (hitems : t.items = s.items) :
    t.queue = s.queue := by
  simp only [State.queue, State.occ, State.slotFromHead, hcfg, hregs, hitems]

theorem State.queueSound_congr (hcfg : t.cfg = s.cfg) (hregs : t.regs = s.regs) (hitems : t.items = s.items) :
    t.QueueSound ↔ s.QueueSound := by
  rw [State.QueueSound, State.queue_congr hcfg hregs hitems, State.QueueSound, State.occ, State.occ, hcfg, hregs]

/-- The slots from `head` on, counted after one advance of it. -/
theorem State.Inv.slotFromHead_advanceHead (hs : s.Inv) (k : Nat) :
    s.advanceHead.slotFromHead k = s.slotFromHead (k + 1) := by
  rw [State.slotFromHead, State.advanceHead_regs, hs.advanceHead_headSlot, State.advanceHead_cfg, Nat.mod_add_mod,
    State.slotFromHead, Nat.add_assoc, Nat.add_comm 1 k]

theorem State.Inv.slotFromHead_zero (hs : s.Inv) : s.slotFromHead 0 = s.regs.headSlot :=
  Nat.mod_eq_of_lt hs.headLt

/-- The oldest item is at `head`, and the rest of the queue is what an advance of `head` leaves. -/
theorem State.Inv.queue_eq_cons (hs : s.Inv) (he : s.empty = false) :
    s.queue = readSlot s.items s.regs.headSlot :: s.advanceHead.queue := by
  rw [State.queue, ← hs.occ_advanceHead (hs.occ_pos he), List.range_succ_eq_map, List.map_cons, hs.slotFromHead_zero,
    List.map_map, State.queue]
  simp only [hs.slotFromHead_advanceHead, State.advanceHead_items]
  rfl

/-- A held item's slot is not the one `tail` names. -/
theorem State.Inv.slotFromHead_ne_tailSlot (hs : s.Inv) {k : Nat} (hk : k < s.occ)
    (hlt : s.occ < s.cfg.usableCapacity) : s.slotFromHead k ≠ s.regs.tailSlot := by
  have hle := (usableCapacity_bounds s.cfg).2
  rw [← hs.slotFromHead_occ]
  intro heq
  have hmod : k ≡ s.occ [MOD s.cfg.cap] := Nat.ModEq.add_left_cancel' s.regs.headSlot heq
  exact Nat.ne_of_lt hk (hmod.eq_of_lt_of_lt (by omega) (by omega))

/-- Storing an item moves no slot of the queue. -/
theorem State.stored_slotFromHead (s : State) (k : Nat) : (s.stored w).slotFromHead k = s.slotFromHead k := by
  simp [State.slotFromHead, State.stored]

theorem State.Inv.queue_stored (hs : s.Inv) (w : Item) (hlt : s.occ < s.cfg.usableCapacity) :
    (s.stored w).queue = s.queue ++ [some (itemBits s.cfg.itemW w)] := by
  have hold : ∀ k ∈ List.range s.occ, readSlot (s.stored w).items ((s.stored w).slotFromHead k) =
      readSlot s.items (s.slotFromHead k) := by
    intro k hk
    rw [s.stored_slotFromHead, State.stored, readSlot_writeSlot,
      if_neg (hs.slotFromHead_ne_tailSlot (List.mem_range.mp hk) hlt)]
  have hnew : readSlot (s.stored w).items ((s.stored w).slotFromHead s.occ) = some (itemBits s.cfg.itemW w) := by
    rw [s.stored_slotFromHead, hs.slotFromHead_occ, State.stored, readSlot_writeSlot, if_pos rfl]
  rw [State.queue, hs.occ_stored hlt, List.range_succ, List.map_append, List.map_congr_left hold, List.map_singleton,
    hnew, State.queue]

/-! ### A sound queue stays sound (R91, R92; 10_state.md R33) -/

theorem State.queueSound_of_occ_zero (h : s.occ = 0) : s.QueueSound := by
  refine ⟨h ▸ Nat.zero_le _, ?_⟩
  simp [State.queue, h]

theorem State.Inv.queueSound_stored (hs : s.Inv) (w : Item) (hq : s.QueueSound) (hf : s.full = false) :
    (s.stored w).QueueSound := by
  obtain ⟨hle, hvalues⟩ := hq
  have hlt := hs.occ_lt_usable hf hle
  refine ⟨?_, ?_⟩
  · rw [hs.occ_stored hlt]
    exact hlt
  · rw [hs.queue_stored w hlt]
    intro x hx
    rcases List.mem_append.mp hx with hx | hx
    · exact hvalues x hx
    · rw [List.mem_singleton.mp hx]
      exact Option.some_ne_none _

theorem State.Inv.queueSound_advanceHead (hs : s.Inv) (hq : s.QueueSound) (he : s.empty = false) :
    s.advanceHead.QueueSound := by
  obtain ⟨hle, hvalues⟩ := hq
  have hocc := hs.occ_advanceHead (hs.occ_pos he)
  refine ⟨?_, fun x hx => hvalues x ?_⟩
  · rw [State.advanceHead_cfg]
    omega
  · rw [hs.queue_eq_cons he]
    exact List.mem_cons_of_mem _ hx

/-- An advance of `head` leaves room for an item. -/
theorem State.Inv.occ_advanceHead_lt (hs : s.Inv) (he : s.empty = false) (hle : s.occ ≤ s.cfg.usableCapacity) :
    s.advanceHead.occ < s.advanceHead.cfg.usableCapacity := by
  have hocc := hs.occ_advanceHead (hs.occ_pos he)
  rw [State.advanceHead_cfg]
  omega

theorem State.Inv.not_full_advanceHead (hs : s.Inv) (he : s.empty = false) (hle : s.occ ≤ s.cfg.usableCapacity) :
    s.advanceHead.full = false :=
  Bool.eq_false_iff.mpr fun hf => Nat.ne_of_lt (hs.occ_advanceHead_lt he hle) (hs.advanceHead.full_iff_occ.mp hf)

/-- With at least two slots a full buffer holds an item. -/
theorem State.Inv.not_empty_of_full (hs : s.Inv) (hcap : 2 ≤ s.cfg.cap) (hf : s.full = true) : s.empty = false := by
  have hle := (usableCapacity_bounds s.cfg).1
  have hocc := hs.full_iff_occ.mp hf
  refine Bool.eq_false_iff.mpr fun he => ?_
  have hzero := hs.empty_iff_occ.mp he
  omega

/-- In a sound queue that is not empty `head` names a slot with a value. -/
theorem State.Inv.readSlot_head_of_sound (hs : s.Inv) (hq : s.QueueSound) (he : s.empty = false) :
    ∃ v, readSlot s.items s.regs.headSlot = some v :=
  Option.ne_none_iff_exists'.mp (hq.2 _ (by rw [hs.queue_eq_cons he]; exact List.mem_cons_self))

/-- WRITE marks a reason where it would break the queue: full under `UNCHECKED` (60_exceptions.md R161). -/
theorem writeItem_keeps_queueSound (hs : s.Inv) (hq : s.QueueSound) (h : writeItem w s = .next t) (hpv : t.pvEmpty) :
    t.QueueSound := by
  have ht := writeItem_keeps_inv hs h
  rcases writeItem_cases h with ⟨_, _, rfl⟩ | ⟨hn, _, rfl⟩
  · exact (State.queueSound_congr rfl rfl rfl).mpr hq
  · rcases State.prepared_cases hn with ⟨_, _, hprep⟩ | ⟨hf, _, hprep⟩ | ⟨hf, hprep⟩
    · rw [hprep] at hpv
      exact absurd hpv (PVMarks.add_ne_none s.pv .writeWhileFull)
    · rw [hprep] at ht ⊢
      by_cases hcap : s.cfg.cap = 1
      · exact State.queueSound_of_occ_zero (ht.occ_of_cap_one hcap)
      · obtain ⟨hpos, _⟩ := hs.cap_bounds
        have he := hs.not_empty_of_full (by omega) hf
        exact hs.advanceHead.queueSound_stored w (hs.queueSound_advanceHead hq he) (hs.not_full_advanceHead he hq.1)
    · rw [hprep]
      exact hs.queueSound_stored w hq hf

/-- READ marks a reason where it would break the queue: while empty (60_exceptions.md R161). -/
theorem readItem_keeps_queueSound (hs : s.Inv) (hq : s.QueueSound) (h : readItem s = .next t) (hpv : t.pvEmpty) :
    t.QueueSound := by
  rcases readItem_cases h with ⟨_, _, rfl⟩ | ⟨_, _, rfl⟩
  · exact (State.queueSound_congr rfl rfl rfl).mpr hq
  · cases he : s.empty with
    | true =>
      rw [State.marked_of_empty he] at hpv
      exact absurd hpv (PVMarks.add_ne_none s.pv .readWhileEmpty)
    | false =>
      obtain ⟨v, hv⟩ := hs.readSlot_head_of_sound hq he
      rw [State.marked_of_item (by simp [he]) hv]
      exact (State.queueSound_congr rfl rfl rfl).mpr (hs.queueSound_advanceHead hq he)

theorem exec_keeps_queueSound (hs : s.Inv) (hq : s.QueueSound) (h : exec i s = .next t) (hpv : t.pvEmpty) :
    t.QueueSound := by
  rcases exec_cases h with ⟨v, _, rfl⟩ | ⟨w, _, hx⟩ | ⟨_, hx⟩
  · exact (State.queueSound_congr rfl rfl rfl).mpr hq
  · exact writeItem_keeps_queueSound hs hq hx hpv
  · exact readItem_keeps_queueSound hs hq hx hpv

theorem State.occ_of_regs_zero {v : Variant} (h : s.regs = Regs.zero v) : s.occ = 0 := by
  rw [State.occ, h]
  cases v <;> simp [Regs.zero, R256Regs.occ_eq, RNRegs.occ]

/-- No reason is set after a step only if none was before it. -/
theorem State.MarksKept.pvEmpty (hkept : s.MarksKept t) (h : t.pvEmpty) : s.pvEmpty := by
  obtain ⟨hwrite, hempty, hunwritten, _⟩ := hkept
  rw [State.pvEmpty] at h ⊢
  rw [h] at hwrite hempty hunwritten
  cases hpv : s.pv with
  | mk full empty unwritten =>
    rw [hpv] at hwrite hempty hunwritten
    simpa [PVMarks.none] using And.intro hwrite (And.intro hempty hunwritten)

/-- Settles O39: a step that breaks no precondition resets, or keeps a sound queue sound. -/
theorem stepKeepsQueueSound : Obligations.StepKeepsQueueSound := by
  intro s t hs hsound h hpv
  have hq := hsound ((step_marksKept h).pvEmpty hpv)
  rcases step_cases h with ⟨_, rfl⟩ | ⟨_, _, rfl⟩ | ⟨_, _, rest, _, _, _, hx⟩
  · exact hq
  · exact State.queueSound_of_occ_zero (State.occ_of_regs_zero rfl)
  · exact exec_keeps_queueSound (hs.with_port rest) ((State.queueSound_congr rfl rfl rfl).mpr hq) hx hpv

/-- Every clause of what holds of an instance just built (R30 to R32). -/
theorem State.built_meets_invariants {cfg : Config} (hwf : cfg.wf = true) :
    (State.built cfg).Inv ∧ (State.built cfg).GenParity ∧ (State.built cfg).QueueSound ∧ (State.built cfg).Clean :=
  ⟨State.built_inv hwf, (State.genParity_iff _).mpr (Regs.zero_genParity cfg.variant),
    State.queueSound_of_occ_zero (State.occ_of_regs_zero rfl), rfl, rfl⟩

/-- Settles O36: `State.reset` is the instance built from `Config.default`, which is admitted. -/
theorem resetMeetsInvariants : Obligations.ResetMeetsInvariants :=
  ⟨fun _ => State.built_meets_invariants, build_of_wf rfl, State.built_meets_invariants rfl⟩

end Sys2Proof.Machine
end

section
/-!
PROOFS. The buffer is a FIFO queue (40_index_and_detector.md R94), also where it drops the oldest item
(41_fixed_ring_256.md R110, 42_fixed_ring_n.md R130), with no latency (20_memory.md R48, 70_reset_and_hazards.md R187),
and one side's operation keeps the other side's check valid (R184, R185).
-/

namespace Sys2Proof.Machine

variable {s t : State} {i : Instr} {w : Item}

/-! ### WRITE of a buffer that is not full -/

theorem eq_stored_of_writeItem (h : writeItem w s = .next t) (hf : s.full = false) : t = s.stored w := by
  rcases writeItem_cases h with ⟨_, hf', _⟩ | ⟨_, _, rfl⟩
  · simp [hf] at hf'
  · rw [State.prepared_of_not_full (by simp [hf])]

/-- Settles O47: the WRITE stores in the slot after the newest item, and the occupancy grows by one. -/
theorem writeAppendsToQueue : Obligations.WriteAppendsToQueue := by
  intro i s t hs hi hf hle h
  rw [eq_stored_of_writeItem (exec_isWrite hi h) hf]
  exact hs.queue_stored _ (hs.occ_lt_usable hf hle)

/-- Settles O52: the WRITE leaves one item more than it found. -/
theorem writeKeepsNotEmpty : Obligations.WriteKeepsNotEmpty := by
  intro i s t hs hi hle hf h
  have ht := exec_keeps_inv hs h
  have hocc := hs.occ_stored (w := encodeWdata i) (hs.occ_lt_usable hf hle)
  rw [← eq_stored_of_writeItem (exec_isWrite hi h) hf] at hocc
  refine Bool.eq_false_iff.mpr fun he => ?_
  rw [ht.empty_iff_occ] at he
  omega

/-! ### READ of a buffer that is not empty -/

theorem eq_advanceHead_of_readItem (h : readItem s = .next t) (he : s.empty = false) :
    t = s.marked.advanceHead.respond (Response.item s.taken) := by
  rcases readItem_cases h with ⟨_, he', _⟩ | ⟨_, _, ht⟩
  · simp [he] at he'
  · exact ht

/-- Settles O48: `head` names the oldest item's slot, and an advance of it leaves the rest of the queue. -/
theorem readTakesTheOldest : Obligations.ReadTakesTheOldest := by
  intro i s t hs hi he hq h
  obtain ⟨v, hv⟩ := hs.readSlot_head_of_sound hq he
  have hne : ¬s.empty = true := by simp [he]
  rw [eq_advanceHead_of_readItem (exec_isRead hi h) he, State.taken_of_item hne hv, State.marked_of_item hne hv]
  refine ⟨v, ?_, List.getLast?_concat⟩
  rw [hs.queue_eq_cons he, hv]
  rfl

/-- Settles O51: the READ leaves one item less than it found. -/
theorem readKeepsNotFull : Obligations.ReadKeepsNotFull := by
  intro i s t hs hi hle he _ h
  obtain ⟨hcfg, hregs, _⟩ := s.marked_frame
  rw [eq_advanceHead_of_readItem (exec_isRead hi h) he, ← hs.not_full_advanceHead he hle]
  simp only [State.full, State.respond_regs, State.respond_cfg, State.advanceHead_regs, State.advanceHead_cfg, hcfg,
    hregs]

/-! ### WRITE of a full buffer under `OVERWRITE_OLDEST` (R110, R130) -/

theorem eq_stored_of_writeItem_overwriteOldest (h : writeItem w s = .next t)
    (hp : s.cfg.overwritePolicy = .overwriteOldest) (hf : s.full = true) : t = s.advanceHead.stored w := by
  rcases writeItem_cases h with ⟨hp', _, _⟩ | ⟨_, _, rfl⟩
  · simp [hp] at hp'
  · rw [State.prepared_of_overwriteOldest hp hf]

/-- Settles O49: `head` advances first, so the WRITE appends to the queue without its oldest item. -/
theorem overwriteDropsTheOldest : Obligations.OverwriteDropsTheOldest := by
  intro i s hs hi hvariant hcap hp hf
  obtain ⟨t, h⟩ := hs.exec_next hvariant
  have he := hs.not_empty_of_full hcap hf
  have hfull := hs.full_iff_occ.mp hf
  have hroom := hs.occ_advanceHead_lt he hfull.le
  have hmoves : s.headMoves i = true := (s.headMoves_iff i).mpr (.inr ⟨hi, hp, hf⟩)
  have hcount := countGrowsWithHead i s t hs h
  rw [if_pos hmoves] at hcount
  obtain rfl := eq_stored_of_writeItem_overwriteOldest (exec_isWrite hi h) hp hf
  refine ⟨_, h, ?full, rfl, hcount, ?queue⟩
  case full =>
    rw [(hs.advanceHead.stored _).full_iff_occ, hs.advanceHead.occ_stored hroom, hs.occ_advanceHead (hs.occ_pos he)]
    exact hfull
  case queue =>
    rw [hs.advanceHead.queue_stored _ hroom, hs.queue_eq_cons he]
    rfl

/-! ### WRITE and at once READ (20_memory.md R48; 70_reset_and_hazards.md R187) -/

theorem State.Inv.writeItem_of_not_full (hs : s.Inv) (w : Item) (hf : s.full = false) :
    writeItem w s = .next (s.stored w) := by
  have hne : ¬s.full = true := by simp [hf]
  rw [writeItem_stored w hs.tailLt fun hd => hne hd.2, State.prepared_of_not_full hne]

/-- The item is in the slot `tail` named, which is the one `head` names. -/
theorem State.Inv.readSlot_stored_of_empty (hs : s.Inv) (w : Item) (he : s.empty = true) :
    readSlot (s.stored w).items (s.stored w).regs.headSlot = some (itemBits s.cfg.itemW w) := by
  have hslot : s.regs.headSlot = s.regs.tailSlot := by
    rw [← hs.slotFromHead_zero, ← hs.slotFromHead_occ, hs.empty_iff_occ.mp he]
  simp [State.stored, readSlot_writeSlot, hslot]

theorem State.Inv.readItem_stored_of_empty (hs : s.Inv) (w : Item) (he : s.empty = true) (hf : s.full = false) :
    ∃ u, readItem (s.stored w) = .next u ∧ u.lastResponse = some (Response.item (itemBits s.cfg.itemW w)) ∧
      u.empty = true := by
  have hzero := hs.empty_iff_occ.mp he
  have ht := hs.stored w
  have hone : (s.stored w).occ = 1 := by
    rw [hs.occ_stored (hs.occ_lt_usable hf (hzero ▸ Nat.zero_le _)), hzero]
  have hne : ¬(s.stored w).empty = true := by
    rw [ht.empty_iff_occ, hone]
    exact Nat.one_ne_zero
  have hgone : (s.stored w).advanceHead.empty = true := by
    have hocc := ht.occ_advanceHead (by omega)
    rw [ht.advanceHead.empty_iff_occ]
    omega
  exact ⟨_, readItem_item ht.headLt hne (hs.readSlot_stored_of_empty w he), List.getLast?_concat, hgone⟩

/-- Settles O50: the READ finds one item, at `head`, and leaves none. -/
theorem writeThenReadReturnsItem : Obligations.WriteThenReadReturnsItem := by
  intro s item hs he hf hitem
  obtain ⟨u, hread, hresp, hempty⟩ := hs.readItem_stored_of_empty item he hf
  have hfits : itemBits s.cfg.itemW item = item := Nat.mod_eq_of_lt hitem
  rw [hfits] at hresp
  have hwrite := hs.writeItem_of_not_full item hf
  refine ⟨s.stored item, u, ?write, ?read, hresp, hempty⟩
  case write =>
    rcases hs.regs_cases with ⟨r, h⟩ | ⟨size, mode, r, h⟩
    · simp only [h.1]
      rw [exec_write_r256 h, hwrite]
    · simp only [h.1]
      rw [exec_write_rn h, hwrite]
  case read =>
    rcases hs.regs_cases with ⟨r, h⟩ | ⟨size, mode, r, h⟩
    · simp only [h.1]
      rw [exec_read_r256 (h.stored item), hread]
    · simp only [h.1]
      rw [exec_read_rn (h.stored item), hread]

end Sys2Proof.Machine
end
